-- ==== Sys2Proof/Word.lean ====
section
/-! DEFINITION. The word types of the JC-MCB (00_scope.md R7, R8): command words and read words are 32 bits,
a transport byte is 8 bits, a read address is 8 bits. -/

namespace Sys2Proof

/-- A command word or a read word (20_memory.md R63). -/
abbrev Word := BitVec 32

/-- One byte of a byte-serial transport (20_memory.md R64). -/
abbrev Byte := BitVec 8

/-- An address of the register read port (20_memory.md R60(b)). -/
abbrev ReadAddr := BitVec 8

end Sys2Proof
end

