-- ==== Sys2Proof/Config.lean ====
section
/-! DEFINITION. The implementation parameters (00_scope.md R6; 10_state.md R24 for the rounding mode). "A model is
instantiated at one value of each": the machine state carries them in its field `cfg` and no step changes it (log 1). -/

namespace Sys2Proof

/-- The rounding of the source's "round(...)" (10_state.md R24, 93_implementation_defined.md U4). -/
inductive RoundMode where
  | halfEven
  | halfUp
  deriving DecidableEq, Repr

/-- The parameters of 00_scope.md R6. The defaults are the spec's; `xMax` and `servoCh` are OPEN in the spec and their
values here are those of its test vectors (log 2, DESIGN CHOICE, unsafe). -/
structure Config where
  /-- CLOSEST_SEP: the separation at which the speed law stops the vehicle. -/
  closestSep : Nat := 450
  /-- X_MAX: the sensor's maximum x coordinate. OPEN in the spec (log 2). -/
  xMax : Nat := 1000
  /-- MEM_INIT: the reset value of TRK_MEM, by default CLOSEST_SEP. -/
  memInit : Nat := closestSep
  /-- SERVO_CH: the PWM channel of the steering servo. OPEN in the spec (log 2). -/
  servoCh : Nat := 0
  /-- PWM_ATTACHED: whether TURNOFF zeroes the PWM channels. -/
  pwmAttached : Bool := true
  /-- PWM_CHANNELS: how many channels TURNOFF zeroes. -/
  pwmChannels : Nat := 16
  /-- SERVO_BASE: the servo duty at Rotation 0, in percent. -/
  servoBase : Nat := 5
  /-- SERVO_SLOPE, numerator: duty per percent of Rotation is `servoSlopeNum / servoSlopeDen`
  (90_conflicts.md C2: the formula's 35/1000). -/
  servoSlopeNum : Nat := 35
  /-- SERVO_SLOPE, denominator. -/
  servoSlopeDen : Nat := 1000
  /-- PWM_FULL: multiplier from duty fraction to ticks. -/
  pwmFull : Nat := 4095
  /-- PWM_FREQ in Hz: informative only, no rule reads it (00_scope.md R6, 70_reset_and_hazards.md R306). -/
  pwmFreq : Nat := 50
  /-- SPD_FULL: multiplier from speed fraction to the motor speed value. -/
  spdFull : Nat := 255
  /-- STEP: the speed ramp step, in percent (log 12). -/
  step : Nat := 5
  /-- ROUND_MODE of both encoders. -/
  roundMode : RoundMode := .halfEven
  deriving DecidableEq, Repr

/-- The parameter values of the spec's test vectors: every default, with X_MAX = 1000 and SERVO_CH = 0
(95_test_vectors.md section 0; log 2). -/
def Config.standard : Config := {}

/-- The legal parameter values: the ranges 00_scope.md R6 states for CLOSEST_SEP, X_MAX, MEM_INIT and SERVO_CH
(decisions D36, D37), and those the model reads from the widths of 20_memory.md R61 and the event ranges of
40_actuator.md R110 for the others (log 3, DEDUCED). -/
structure Config.Legal (c : Config) : Prop where
  closestSep_pos : 1 ≤ c.closestSep
  closestSep_le : c.closestSep ≤ 4095
  xMax_pos : 1 ≤ c.xMax
  xMax_le : c.xMax ≤ 4095
  memInit_le : c.memInit ≤ 4095
  servoCh_lt : c.servoCh < c.pwmChannels
  pwmChannels_le : c.pwmChannels ≤ 255
  spdFull_le : c.spdFull ≤ 255
  slopeDen_pos : 1 ≤ c.servoSlopeDen
  slopeNum_pos : 1 ≤ c.servoSlopeNum
  /-- The duty at Rotation 100 is at most 100 %. -/
  duty_le : 100 * c.servoSlopeNum + c.servoBase * c.servoSlopeDen ≤ 100 * c.servoSlopeDen
  pwmFull_le : c.pwmFull ≤ 4095

end Sys2Proof
end

