-- ==== Sys2Proof/Machine/Scale.lean ====
section
/-! DEFINITION. The derived constants of 00_scope.md R6, the rounding of 10_state.md R24, and the two output encoders
of 40_actuator.md R111 and R112, all in exact arithmetic (00_scope.md R8). -/

namespace Sys2Proof.Machine

/-- SPD_DEN = 2*CLOSEST_SEP: SPEED_Q units per percent of Speed. -/
def spdDen (c : Config) : Nat := 2 * c.closestSep

/-- ROT_DEN = 2*X_MAX: ROT_Q units per percent of Rotation. -/
def rotDen (c : Config) : Nat := 2 * c.xMax

/-- SPD_MAX_Q = 100*SPD_DEN. -/
def spdMaxQ (c : Config) : Nat := 100 * spdDen c

/-- ROT_MAX_Q = 100*ROT_DEN. -/
def rotMaxQ (c : Config) : Nat := 100 * rotDen c

/-- ROT_MID_Q = 50*ROT_DEN, Rotation 50. -/
def rotMidQ (c : Config) : Nat := 50 * rotDen c

/-- The integer nearest to the rational `num / den` (10_state.md R24): below the half down, above it up, and at a tie
by the mode: the even neighbour (`round_he`) or the upper one. -/
def roundDiv (mode : RoundMode) (num den : Nat) : Nat :=
  let k := num / den
  let r := num % den
  if 2 * r < den then k
  else if den < 2 * r then k + 1
  else
    match mode with
    | .halfEven => if k % 2 = 0 then k else k + 1
    | .halfUp => k + 1

/-- `spd_byte(q) = round_he(q * SPD_FULL / (100 * SPD_DEN))` (R111). -/
def spdByte (c : Config) (q : Nat) : Nat :=
  roundDiv c.roundMode (q * c.spdFull) (100 * spdDen c)

/-- `servo_tick(q) = round_he(((SERVO_SLOPE * (q / ROT_DEN) + SERVO_BASE) / 100) * PWM_FULL)` (R112), the rational
written over the one denominator `100 * servoSlopeDen * ROT_DEN`. -/
def servoTick (c : Config) (q : Nat) : Nat :=
  roundDiv c.roundMode
    ((c.servoSlopeNum * q + c.servoBase * (c.servoSlopeDen * rotDen c)) * c.pwmFull)
    (100 * (c.servoSlopeDen * rotDen c))

end Sys2Proof.Machine
end

