-- ==== Sys2Proof/Syntax.lean ====
section
/-! DEFINITION. The commands of the JC-MCB: one constructor of `Instr` per row of spec/opcode_table.json
(30_encoding.md R89), with the operands of rules R82 to R87. -/

namespace Sys2Proof

/-- The Direction, "tagged variant" with three values (10_state.md R20); the code 0b11 is not a value of it. -/
inductive Direction where
  | neutral
  | forward
  | backward
  deriving DecidableEq, Repr

/-- The supervisor's mode flag (10_state.md R27). -/
inductive Mode where
  | manual
  | track
  deriving DecidableEq, Repr

/-- The K-format operand: one flag per key, true when the key is pressed in this cycle (30_encoding.md R86). -/
structure Keys where
  up : Bool
  down : Bool
  left : Bool
  right : Bool
  hold : Bool
  exit : Bool
  modeManual : Bool
  modeTrack : Bool
  deriving DecidableEq, Repr

/-- The seventeen commands of 30_encoding.md R89. Percent operands are plain integers, not scaled (R82, R83);
their ranges are checked by `Instr.WellFormed`. -/
inductive Instr where
  /-- NOP, format N (43_supervisor.md R230). -/
  | nop
  /-- SETDIR d, format D (40_actuator.md R120). -/
  | setdir (d : Direction)
  /-- INC, format N (40_actuator.md R121). -/
  | inc
  /-- DEC, format N (40_actuator.md R122). -/
  | dec
  /-- SNAPSPD p, format S, a signed percentage (40_actuator.md R123). -/
  | snapspd (p : Int)
  /-- ROTR m, format U, an unsigned magnitude, 0 for the default (40_actuator.md R125). -/
  | rotr (m : Nat)
  /-- ROTL m, format U (40_actuator.md R126). -/
  | rotl (m : Nat)
  /-- SNAPROT p, format S (40_actuator.md R127). -/
  | snaprot (p : Int)
  /-- ENABLE, format N (40_actuator.md R128). -/
  | enable
  /-- DISABLE, format N (40_actuator.md R129). -/
  | disable
  /-- TURNOFF, format N (40_actuator.md R130). -/
  | turnoff
  /-- BCLR, format N (41_tracking.md R160). -/
  | bclr
  /-- BSLOT slot, v, x, y, format B (41_tracking.md R161); `v` false is the assembler's NONE. -/
  | bslot (slot : Fin 4) (v : Bool) (x y : BitVec 12)
  /-- TRACK, format N (41_tracking.md R167). -/
  | track
  /-- MANUAL keys, format K (42_manual.md R200). -/
  | manual (keys : Keys)
  /-- SETMODE md, format M (43_supervisor.md R231). -/
  | setmode (md : Mode)
  /-- CYCLE keys, format K (43_supervisor.md R232). -/
  | cycle (keys : Keys)
  deriving DecidableEq, Repr

end Sys2Proof
end

