-- ==== Sys2Proof/Machine/State.lean ====
section
/-! DEFINITION. The state of the JC-MCB as plain data (10_state.md section 1), its reset value (70_reset_and_hazards.md
R290), and the reasons a step can stop, of which the spec gives none (60_exceptions.md R260). -/

namespace Sys2Proof.Machine

/-- The two motors, "motorId ∈ {1,2}" (40_actuator.md R110). -/
inductive Motor where
  | m1
  | m2
  deriving DecidableEq, Repr

/-- The run signals, "directionSignal ∈ {Forward, Backward, Release}" (40_actuator.md R110). -/
inductive RunSignal where
  | forward
  | backward
  | release
  deriving DecidableEq, Repr

/-- The output events (40_actuator.md R110). Values are plain numbers; that they are in the drivers' ranges is an
invariant (`Safety.EventOk`). -/
inductive Event where
  /-- `SPD(m, v)`: the speed value of a motor. -/
  | spd (m : Motor) (v : Nat)
  /-- `RUN(m, s)`: the run signal of a motor. -/
  | run (m : Motor) (s : RunSignal)
  /-- `PWM(ch, on, off)`: the ticks of a PWM channel. -/
  | pwm (ch : Nat) (on off : Nat)
  deriving DecidableEq, Repr

/-- One slot of the beacon frame (10_state.md R26). -/
structure Slot where
  v : Bool
  x : BitVec 12
  y : BitVec 12
  deriving DecidableEq, Repr

/-- "no detection": V = 0 with X = Y = 0 (R26, 41_tracking.md R161). -/
def Slot.absent : Slot := ⟨false, 0, 0⟩

/-- The beacon-frame register file FRAME[0..3] (10_state.md R26). -/
structure Frame where
  slot0 : Slot
  slot1 : Slot
  slot2 : Slot
  slot3 : Slot
  deriving DecidableEq, Repr

/-- A frame of four absent slots. -/
def Frame.empty : Frame := ⟨Slot.absent, Slot.absent, Slot.absent, Slot.absent⟩

/-- What the host puts on the block's ports (00_scope.md R3(a), R3(b); 70_reset_and_hazards.md R292; log 4, 5, 6). -/
inductive HostInput where
  /-- A word on the command port. -/
  | command (w : Word)
  /-- An address on the register read port. -/
  | read (a : ReadAddr)
  /-- Reset, between commands. -/
  | reset
  deriving DecidableEq, Repr

/-- The machine: the registers and the event stream of 10_state.md section 1, the parameters of the instantiation
(`cfg`, log 1), and the two host ports as data (`inbox`, `readData`, log 4 and 5). -/
structure State where
  /-- The parameters (00_scope.md R6); no step changes them. The model's own field. -/
  cfg : Config
  /-- DIR (10_state.md R20). -/
  dir : Direction
  /-- SPEED_Q (10_state.md R21). -/
  speedQ : BitVec 20
  /-- ROT_Q (10_state.md R23). -/
  rotQ : BitVec 20
  /-- TRK_MEM (10_state.md R25). -/
  trkMem : BitVec 12
  /-- MODE (10_state.md R27). -/
  mode : Mode
  /-- FRAME[0..3] (10_state.md R26). -/
  frame : Frame
  /-- HALTED (10_state.md R28). -/
  halted : Bool
  /-- ILL (10_state.md R29). -/
  ill : Bool
  /-- The output event stream, oldest first (40_actuator.md R110). -/
  events : List Event
  /-- What the host has offered and the block has not taken, oldest first. The model's own field. -/
  inbox : List HostInput
  /-- The words the read port has returned, oldest first. The model's own field. -/
  readData : List Word
  deriving DecidableEq, Repr

/-- The reset state of a block instantiated at the parameters `c` (70_reset_and_hazards.md R290). -/
def State.resetWith (c : Config) : State where
  cfg := c
  dir := .neutral
  speedQ := 0
  rotQ := BitVec.ofNat 20 (rotMidQ c)
  trkMem := BitVec.ofNat 12 c.memInit
  mode := .manual
  frame := Frame.empty
  halted := false
  ill := false
  events := []
  inbox := []
  readData := []

/-- The machine right after reset, at the parameter values of `Config.standard` (log 2): R290, nothing on its ports. -/
def State.reset : State := State.resetWith Config.standard

/-- The faults of the machine: none. "No command raises an exception, and the block has no trap" (60_exceptions.md
R260, log 8); safe, because no step can end in one. -/
inductive Fault where
  deriving DecidableEq, Repr

/-- The refusals of the machine. -/
inductive Refusal where
  /-- Raised by an arm of `exec` whose instruction has no meaning yet; safe, the machine stops. No arm raises it. -/
  | notModelled (mnemonic : String)
  deriving DecidableEq, Repr

end Sys2Proof.Machine
end

