-- ==== Sys2Proof/Machine/Flags.lean ====
section
/-! DEFINITION. The two status bits HALTED and ILL (10_state.md R28, R29, R33) and what each of them does. The block
has no condition codes and no other flag. -/

namespace Sys2Proof.Machine

/-- `HALTED <- 1` (43_supervisor.md R232 step 1). -/
def setHalted (s : State) : State := { s with halted := true }

/-- `ILL <- 1`, the one effect of an illegal word (30_encoding.md R88, 60_exceptions.md R261). -/
def raiseIll (s : State) : State := { s with ill := true }

/-- The commands that act while HALTED = 1: NOP and TURNOFF (43_supervisor.md R235). -/
def actsWhileHalted : Instr → Bool
  | .nop => true
  | .setdir _ => false
  | .inc => false
  | .dec => false
  | .snapspd _ => false
  | .rotr _ => false
  | .rotl _ => false
  | .snaprot _ => false
  | .enable => false
  | .disable => false
  | .turnoff => true
  | .bclr => false
  | .bslot _ _ _ _ => false
  | .track => false
  | .manual _ => false
  | .setmode _ => false
  | .cycle _ => false

/-- Whether the HALTED gate discards the command (43_supervisor.md R235). -/
def discarded (i : Instr) (s : State) : Bool := s.halted && !actsWhileHalted i

/-- STATUS, read-port address 0x01: bit 0 HALTED, bit 1 ILL (20_memory.md R61). -/
def statusWord (s : State) : Word :=
  (0 : BitVec 30) ++ BitVec.ofBool s.ill ++ BitVec.ofBool s.halted

end Sys2Proof.Machine
end

