-- ==== Sys2Proof/Machine/Operands.lean ====
section
/-! DEFINITION. What the commands compute from their operands and from the frame: the default magnitude (40_actuator.md
R124), the run signal (R115), the cancelling keys (42_manual.md R205, 43_supervisor.md R234), the valid points
(41_tracking.md R162), the speed law (R163), the pair of an ambiguous frame (R164) and the steering law (R166). -/

namespace Sys2Proof.Machine

/-- `eff(m) = 1 if m == 0 else m` (40_actuator.md R124). -/
def effMagnitude (m : Nat) : Nat := if m = 0 then 1 else m

/-- `sig(d)`: the run signal of a direction (40_actuator.md R115). -/
def runSignal : Direction → RunSignal
  | .neutral => .release
  | .forward => .forward
  | .backward => .backward

/-! ### Keys (42_manual.md R200, R205; 43_supervisor.md R234) -/

/-- UP without DOWN. -/
def upOnly (k : Keys) : Bool := k.up && !k.down

/-- DOWN without UP. -/
def downOnly (k : Keys) : Bool := k.down && !k.up

/-- LEFT without RIGHT. -/
def leftOnly (k : Keys) : Bool := k.left && !k.right

/-- RIGHT without LEFT. -/
def rightOnly (k : Keys) : Bool := k.right && !k.left

/-- The mode after the mode keys: one key selects its mode, both or neither leave it (43_supervisor.md R232 step 2). -/
def modeAfterKeys (k : Keys) (m : Mode) : Mode :=
  if k.modeManual && !k.modeTrack then .manual
  else if k.modeTrack && !k.modeManual then .track
  else m

/-! ### The beacon frame (10_state.md R26) -/

/-- FRAME[i]. -/
def Frame.get (f : Frame) : Fin 4 → Slot
  | 0 => f.slot0
  | 1 => f.slot1
  | 2 => f.slot2
  | 3 => f.slot3

/-- The frame with `FRAME[i] <- t`. -/
def Frame.set (f : Frame) (i : Fin 4) (t : Slot) : Frame :=
  match i with
  | 0 => { f with slot0 := t }
  | 1 => { f with slot1 := t }
  | 2 => { f with slot2 := t }
  | 3 => { f with slot3 := t }

/-- The four slots in slot order. -/
def Frame.slots (f : Frame) : List Slot := [f.slot0, f.slot1, f.slot2, f.slot3]

/-- The slot BSLOT stores (41_tracking.md R161): with V = 0, absent with X = Y = 0. -/
def loadedSlot (v : Bool) (x y : BitVec 12) : Slot := if v then ⟨true, x, y⟩ else Slot.absent

/-- The valid points in slot order (41_tracking.md R162). -/
def validPoints (f : Frame) : List Slot := f.slots.filter (fun t => t.v)

/-! ### The tracking laws -/

/-- `speedFromSeparationQ(sep)` (41_tracking.md R163), in SPEED_Q units. -/
def speedFromSeparationQ (c : Config) (sep : Nat) : Nat :=
  if sep ≥ c.closestSep then 0
  else if 4 * sep ≥ 3 * c.closestSep then 25 * spdDen c
  else 200 * (c.closestSep - sep)

/-- The first point of greatest y among `best` and the points after it (41_tracking.md R164). -/
def firstMaxY (best : Slot) : List Slot → Slot
  | [] => best
  | t :: ts => firstMaxY (if best.y.toNat < t.y.toNat then t else best) ts

/-- The first point of least y among `best` and the points after it (41_tracking.md R164). -/
def firstMinY (best : Slot) : List Slot → Slot
  | [] => best
  | t :: ts => firstMinY (if t.y.toNat < best.y.toNat then t else best) ts

/-- `|a.Y - b.Y|` (41_tracking.md R167). -/
def separation (a b : Slot) : Nat := ((a.y.toNat : Int) - (b.y.toNat : Int)).natAbs

/-- The steering value of one point, `200 * x` (41_tracking.md R166). -/
def steerOneQ (a : Slot) : Int := 200 * (a.x.toNat : Int)

/-- The steering value of a pair, `100 * (xa + xb)` (41_tracking.md R166). -/
def steerPairQ (a b : Slot) : Int := 100 * ((a.x.toNat : Int) + (b.x.toNat : Int))

end Sys2Proof.Machine
end

