-- ==== Sys2Proof/Machine/Ops.lean ====
section
/-! DEFINITION. The named updates of the state and the micro-operations of 40_actuator.md (00_scope.md R10): each is
defined once, the command of the same name runs it, and TRACK, MANUAL and CYCLE call it. The block has no memory
(20_memory.md R60) and takes no exception (60_exceptions.md R260, R264), so there are no memory operations and no
exception entry here. -/

namespace Sys2Proof.Machine

/-! ### Register writes -/

/-- `DIR <- d`. -/
def setDir (d : Direction) (s : State) : State := { s with dir := d }

/-- `SPEED_Q <- q`: the 20-bit register (log 11). -/
def setSpeedQ (q : Nat) (s : State) : State := { s with speedQ := BitVec.ofNat 20 q }

/-- `ROT_Q <- q`: the 20-bit register (log 11). -/
def setRotQ (q : Nat) (s : State) : State := { s with rotQ := BitVec.ofNat 20 q }

/-- `TRK_MEM <- sep`: the 12-bit register. -/
def setTrkMem (sep : Nat) (s : State) : State := { s with trkMem := BitVec.ofNat 12 sep }

/-- `MODE <- m`. -/
def setMode (m : Mode) (s : State) : State := { s with mode := m }

/-- FRAME replaced whole. -/
def setFrame (f : Frame) (s : State) : State := { s with frame := f }

/-- What stands on the ports after the block has taken an input. -/
def setInbox (l : List HostInput) (s : State) : State := { s with inbox := l }

/-- One more word returned by the read port. -/
def pushReadData (d : Word) (s : State) : State := { s with readData := s.readData ++ [d] }

/-! ### Events (40_actuator.md R110, R116) -/

/-- `emit(E)`: append to the end of the stream (00_scope.md R9). -/
def emit (e : Event) (s : State) : State := { s with events := s.events ++ [e] }

/-- The same event for motor 1 and then for motor 2 (R116). -/
def emitBoth (e : Motor → Event) (s : State) : State := emit (e .m2) (emit (e .m1) s)

/-- The same run signal for both motors (R116). -/
def emitRun (sig : RunSignal) (s : State) : State := emitBoth (fun m => .run m sig) s

/-- A list of events in its order. -/
def emitAll (es : List Event) (s : State) : State := { s with events := s.events ++ es }

/-! ### The two register writers that emit -/

/-- `writeSpeed(q)` (R113): "the only way any rule stores SPEED_Q"; it emits even when the value is unchanged. -/
def writeSpeed (q : Nat) (s : State) : State :=
  emitBoth (fun m => .spd m (spdByte s.cfg q)) (setSpeedQ q s)

/-- `writeRot(q)` (R114): "the only way any rule stores ROT_Q". -/
def writeRot (q : Nat) (s : State) : State :=
  emit (.pwm s.cfg.servoCh 0 (servoTick s.cfg q)) (setRotQ q s)

/-! ### Micro-operations -/

/-- `setDirection(d)` (R120): NEUTRAL forces Speed to 0; the other directions leave it (90_conflicts.md C3). -/
def setDirection (d : Direction) (s : State) : State :=
  let s := setDir d s
  if d = .neutral then writeSpeed 0 s else s

/-- `increaseSpeed()` (R121): no-op while NEUTRAL, else STEP percent up, saturating at 100 (log 12 for STEP). -/
def increaseSpeed (s : State) : State :=
  if s.dir = .neutral then s
  else writeSpeed (min (s.speedQ.toNat + s.cfg.step * spdDen s.cfg) (spdMaxQ s.cfg)) s

/-- `decreaseSpeed()` (R122): no-op while NEUTRAL, else STEP percent down, saturating at 0. The subtraction of natural
numbers is the `max(·, 0)` of the rule. -/
def decreaseSpeed (s : State) : State :=
  if s.dir = .neutral then s
  else writeSpeed (s.speedQ.toNat - s.cfg.step * spdDen s.cfg) s

/-- `snapSpeedQ(q)` (R123): ignored while NEUTRAL and when out of range. -/
def snapSpeedQ (q : Int) (s : State) : State :=
  if s.dir = .neutral then s
  else if q < 0 ∨ q > (spdMaxQ s.cfg : Int) then s
  else writeSpeed q.toNat s

/-- `snapRotateQ(q)` (R127): ignored when out of range, whatever DIR holds. -/
def snapRotateQ (q : Int) (s : State) : State :=
  if q < 0 ∨ q > (rotMaxQ s.cfg : Int) then s
  else writeRot q.toNat s

/-- `rotateRight(m)` (R125): Rotation down by `eff(m)` percent, ignored when it would pass 0. -/
def rotateRight (m : Nat) (s : State) : State :=
  let n : Int := (s.rotQ.toNat : Int) - ((effMagnitude m * rotDen s.cfg : Nat) : Int)
  if n < 0 then s else writeRot n.toNat s

/-- `rotateLeft(m)` (R126): Rotation up by `eff(m)` percent, ignored when it would pass 100. -/
def rotateLeft (m : Nat) (s : State) : State :=
  let n := s.rotQ.toNat + effMagnitude m * rotDen s.cfg
  if n > rotMaxQ s.cfg then s else writeRot n s

/-- `enableMotors()` (R128): the current direction to both motors; no register changes. -/
def enableMotors (s : State) : State := emitRun (runSignal s.dir) s

/-- `disableMotors()` (R129): RELEASE to both motors; no register changes. -/
def disableMotors (s : State) : State := emitRun .release s

/-- The zeroing events of every PWM channel, in increasing order (R130). -/
def pwmZeroes (c : Config) : List Event :=
  if c.pwmAttached then (List.range c.pwmChannels).map (fun ch => .pwm ch 0 0) else []

/-- `turnOff()` (R130): the fail-safe. -/
def turnOff (s : State) : State :=
  let s := setDir .neutral s
  let s := emitRun .release s
  let s := writeSpeed 0 s
  emitAll (pwmZeroes s.cfg) s

end Sys2Proof.Machine
end

