-- ==== Sys2Proof/Machine/Actuator.lean ====
section
/-! DEFINITION. The meanings of the ActuatorState commands (40_actuator.md R120 to R130). Each runs the micro-operation
of the same name; none writes a status bit and none stops. -/

namespace Sys2Proof.Machine

/-- SETDIR d (R120). -/
def execSetdir (d : Direction) (s : State) : Host.Outcome State Fault Refusal := .next (setDirection d s)

/-- INC (R121). -/
def execInc (s : State) : Host.Outcome State Fault Refusal := .next (increaseSpeed s)

/-- DEC (R122). -/
def execDec (s : State) : Host.Outcome State Fault Refusal := .next (decreaseSpeed s)

/-- SNAPSPD p (R123): `snapSpeedQ(p * SPD_DEN)`. -/
def execSnapspd (p : Int) (s : State) : Host.Outcome State Fault Refusal :=
  .next (snapSpeedQ (p * (spdDen s.cfg : Int)) s)

/-- ROTR m (R125). -/
def execRotr (m : Nat) (s : State) : Host.Outcome State Fault Refusal := .next (rotateRight m s)

/-- ROTL m (R126). -/
def execRotl (m : Nat) (s : State) : Host.Outcome State Fault Refusal := .next (rotateLeft m s)

/-- SNAPROT p (R127): `snapRotateQ(p * ROT_DEN)`. -/
def execSnaprot (p : Int) (s : State) : Host.Outcome State Fault Refusal :=
  .next (snapRotateQ (p * (rotDen s.cfg : Int)) s)

/-- ENABLE (R128). -/
def execEnable (s : State) : Host.Outcome State Fault Refusal := .next (enableMotors s)

/-- DISABLE (R129). -/
def execDisable (s : State) : Host.Outcome State Fault Refusal := .next (disableMotors s)

/-- TURNOFF (R130): it does not set HALTED. -/
def execTurnoff (s : State) : Host.Outcome State Fault Refusal := .next (turnOff s)

end Sys2Proof.Machine
end

