-- ==== Sys2Proof/Machine/Manual.lean ====
section
/-! DEFINITION. The InputController (42_manual.md R200 to R207): one manual cycle in its three steps. EXIT and the mode
keys are not read here (R207). -/

namespace Sys2Proof.Machine

/-- The zero-crossing flip (R202): after a decrease, Speed 0 selects the other direction. -/
def flipAtZero (d : Direction) (s : State) : State :=
  if s.speedQ = 0 then setDirection d s else s

/-- "up" by the current direction (R200 step 1, R201, R202). -/
def upKey (s : State) : State :=
  match s.dir with
  | .neutral => setDirection .forward s
  | .forward => increaseSpeed s
  | .backward => flipAtZero .forward (decreaseSpeed s)

/-- "down" by the current direction (R200 step 1, R201, R202). -/
def downKey (s : State) : State :=
  match s.dir with
  | .neutral => setDirection .backward s
  | .forward => flipAtZero .backward (decreaseSpeed s)
  | .backward => increaseSpeed s

/-- Step 1: direction and speed; opposing keys cancel (R205). -/
def driveStep (k : Keys) (s : State) : State :=
  let s := if upOnly k then upKey s else s
  if downOnly k then downKey s else s

/-- Step 2: steering (R203): LEFT calls rotateRight and RIGHT calls rotateLeft, with the default magnitude. -/
def steerStep (k : Keys) (s : State) : State :=
  let s := if leftOnly k then rotateRight 0 s else s
  if rightOnly k then rotateLeft 0 s else s

/-- Step 3: the dead-man gate (R204), with the direction step 1 left. -/
def holdGate (k : Keys) (s : State) : State := if k.hold then enableMotors s else disableMotors s

/-- One InputController cycle (R200). -/
def manualCycle (k : Keys) (s : State) : State := holdGate k (steerStep k (driveStep k s))

/-- MANUAL keys (R200): it runs whatever MODE holds. -/
def execManual (keys : Keys) (s : State) : Host.Outcome State Fault Refusal := .next (manualCycle keys s)

end Sys2Proof.Machine
end

