-- ==== Sys2Proof/Machine/Tracking.lean ====
section
/-! DEFINITION. The TrackingController (41_tracking.md): BCLR (R160), BSLOT (R161) and TRACK (R165 to R168). -/

namespace Sys2Proof.Machine

/-- NoTarget (R165): the motors are disabled; rotation, speed and memory are unchanged. -/
def trackNone (s : State) : State := disableMotors s

/-- SingleTarget (R165, R167): half the speed law of TRK_MEM, which stays. Every value of the law is even (R163), so
the half is exact. -/
def trackSingle (a : Slot) (s : State) : State :=
  let s := snapRotateQ (steerOneQ a) s
  let s := snapSpeedQ ((speedFromSeparationQ s.cfg s.trkMem.toNat / 2 : Nat) : Int) s
  enableMotors s

/-- DualTarget (R165, R167, R168): steer, speed, memory, enable, in that order; the memory takes the separation even
when the speed write was a no-op. -/
def trackPair (a b : Slot) (s : State) : State :=
  let s := snapRotateQ (steerPairQ a b) s
  let s := snapSpeedQ (speedFromSeparationQ s.cfg (separation a b) : Int) s
  let s := setTrkMem (separation a b) s
  enableMotors s

/-- One tracking cycle on the current frame (R167). More than two points go to the pair of R164, each chosen as the
first point of greatest or least y. -/
def trackCycle (s : State) : State :=
  match validPoints s.frame with
  | [] => trackNone s
  | [a] => trackSingle a s
  | [a, b] => trackPair a b s
  | a :: b :: c :: more => trackPair (firstMaxY a (b :: c :: more)) (firstMinY a (b :: c :: more)) s

/-- BCLR (R160): every slot absent, no event. -/
def execBclr (s : State) : Host.Outcome State Fault Refusal := .next (setFrame Frame.empty s)

/-- BSLOT slot, v, x, y (R161): one slot loaded, no event. -/
def execBslot (slot : Fin 4) (v : Bool) (x y : BitVec 12) (s : State) : Host.Outcome State Fault Refusal :=
  .next (setFrame (s.frame.set slot (loadedSlot v x y)) s)

/-- TRACK (R167): it runs whatever MODE holds and never writes DIR. -/
def execTrack (s : State) : Host.Outcome State Fault Refusal := .next (trackCycle s)

end Sys2Proof.Machine
end

