-- ==== Sys2Proof/Machine/Supervisor.lean ====
section
/-! DEFINITION. The ModeSupervisor commands (43_supervisor.md): NOP (R230), SETMODE (R231) and CYCLE (R232 to R238). -/

namespace Sys2Proof.Machine

/-- The emergency stop (R233): turnOff and HALTED, with no dispatch. -/
def emergencyStop (s : State) : State := setHalted (turnOff s)

/-- Exactly one controller, chosen by MODE (R236). -/
def dispatchController (k : Keys) (s : State) : State :=
  match s.mode with
  | .manual => manualCycle k s
  | .track => trackCycle s

/-- One supervisor cycle (R232): EXIT first, then the mode keys, then dispatch. -/
def supervisorCycle (k : Keys) (s : State) : State :=
  if k.exit then emergencyStop s
  else dispatchController k (setMode (modeAfterKeys k s.mode) s)

/-- NOP (R230): nothing. -/
def execNop (s : State) : Host.Outcome State Fault Refusal := .next s

/-- SETMODE md (R231): only MODE (R238). -/
def execSetmode (md : Mode) (s : State) : Host.Outcome State Fault Refusal := .next (setMode md s)

/-- CYCLE keys (R232). -/
def execCycle (keys : Keys) (s : State) : Host.Outcome State Fault Refusal := .next (supervisorCycle keys s)

end Sys2Proof.Machine
end

