-- ==== Sys2Proof/Machine/Dispatch.lean ====
section
/-! DEFINITION. The meaning of each command: `execute(w)` of 43_supervisor.md R235, after the illegal-word check and the
HALTED gate, which stand in Machine/Prologue.lean (log 7). -/

namespace Sys2Proof.Machine

def exec (i : Instr) (s : State) : Host.Outcome State Fault Refusal :=
  match i with
  | .nop => Sys2Proof.Machine.execNop s
  | .setdir d => Sys2Proof.Machine.execSetdir d s
  | .inc => Sys2Proof.Machine.execInc s
  | .dec => Sys2Proof.Machine.execDec s
  | .snapspd p => Sys2Proof.Machine.execSnapspd p s
  | .rotr m => Sys2Proof.Machine.execRotr m s
  | .rotl m => Sys2Proof.Machine.execRotl m s
  | .snaprot p => Sys2Proof.Machine.execSnaprot p s
  | .enable => Sys2Proof.Machine.execEnable s
  | .disable => Sys2Proof.Machine.execDisable s
  | .turnoff => Sys2Proof.Machine.execTurnoff s
  | .bclr => Sys2Proof.Machine.execBclr s
  | .bslot slot v x y => Sys2Proof.Machine.execBslot slot v x y s
  | .track => Sys2Proof.Machine.execTrack s
  | .manual keys => Sys2Proof.Machine.execManual keys s
  | .setmode md => Sys2Proof.Machine.execSetmode md s
  | .cycle keys => Sys2Proof.Machine.execCycle keys s

end Sys2Proof.Machine
end

