-- ==== Sys2Proof/WellFormed.lean ====
section
/-! DEFINITION. Which operands an encoding can hold (30_encoding.md R82, R83, R92): "An assembler refuses any operand
out of its range. It never wraps or truncates a value." The other operands carry their range in their type. -/

namespace Sys2Proof

/-- The range of an S-format operand (30_encoding.md R82): a signed 16-bit percentage. -/
abbrev SignedPercent (p : Int) : Prop := -32768 ≤ p ∧ p ≤ 32767

/-- The range of a U-format operand (30_encoding.md R83): an unsigned 16-bit magnitude. -/
abbrev Magnitude (m : Nat) : Prop := m ≤ 65535

/-- The check of a command's operands, as a Bool. -/
def Instr.wellFormed : Instr → Bool
  | .nop => true
  | .setdir _ => true
  | .inc => true
  | .dec => true
  | .snapspd p => decide (SignedPercent p)
  | .rotr m => decide (Magnitude m)
  | .rotl m => decide (Magnitude m)
  | .snaprot p => decide (SignedPercent p)
  | .enable => true
  | .disable => true
  | .turnoff => true
  | .bclr => true
  | .bslot _ _ _ _ => true
  | .track => true
  | .manual _ => true
  | .setmode _ => true
  | .cycle _ => true

/-- A command whose operands its encoding can hold. -/
abbrev Instr.WellFormed (i : Instr) : Prop := i.wellFormed = true

end Sys2Proof
end

