-- ==== Sys2Proof/Decode.lean ====
section
/-! DEFINITION. Decoding and encoding of command words (30_encoding.md R80 to R91), the opcode map as data (R89), and
the byte order of a byte-serial transport (20_memory.md R64). -/

namespace Sys2Proof

/-- Why a command word is illegal (30_encoding.md R88), or why bytes hold no word. The block records none of these
names: an illegal word only sets ILL (60_exceptions.md R261). -/
inductive DecodeError where
  /-- R88(a): the opcode is not a row of R89. -/
  | reservedOpcode
  /-- R88(b): a reserved bit of the format is 1. -/
  | reservedBits
  /-- R88(c): SETDIR with 0b11. -/
  | reservedDirection
  /-- Fewer than four bytes of a transport: no word yet (not a word, so R88 does not apply). -/
  | truncated
  deriving DecidableEq, Repr

/-! ### Fields (00_scope.md R7) -/

/-- `w[hi:lo]` for a field of `len` bits from bit `lo` up. -/
def field (w : Word) (lo len : Nat) : BitVec len := w.extractLsb' lo len

/-- The opcode `w[31:27]` (R80). -/
def opcode (w : Word) : BitVec 5 := field w 27 5

/-- `sext_16` (00_scope.md R8): the two's-complement value of a 16-bit field. -/
def sext16 (f : BitVec 16) : Int := f.toInt

/-- `zext_16` (00_scope.md R8): the unsigned value of a 16-bit field. -/
def zext16 (f : BitVec 16) : Nat := f.toNat

/-- The D-format code of a direction (30_encoding.md R85, 10_state.md R20). -/
def Direction.code : Direction → BitVec 2
  | .neutral => 0b00
  | .forward => 0b01
  | .backward => 0b10

/-- The direction of a D-format code; 0b11 names none (R85, R88(c)). -/
def directionOfCode (c : BitVec 2) : Option Direction :=
  if c = 0b00 then some .neutral
  else if c = 0b01 then some .forward
  else if c = 0b10 then some .backward
  else none

/-- The M-format code of a mode (30_encoding.md R87, 10_state.md R27). -/
def Mode.code : Mode → BitVec 1
  | .manual => 0
  | .track => 1

/-- The mode of an M-format bit (R87). -/
def modeOfCode (c : BitVec 1) : Mode := if c = 0 then .manual else .track

/-- The keys of a K-format field (30_encoding.md R86). -/
def keysOfBits (b : BitVec 8) : Keys where
  up := b.getLsbD 0
  down := b.getLsbD 1
  left := b.getLsbD 2
  right := b.getLsbD 3
  hold := b.getLsbD 4
  exit := b.getLsbD 5
  modeManual := b.getLsbD 6
  modeTrack := b.getLsbD 7

/-- The K-format field of a set of keys (30_encoding.md R86): bit 0 is UP, bit 7 is MODE_TRACK. -/
def Keys.bits (k : Keys) : BitVec 8 :=
  BitVec.ofNat 8 (k.up.toNat + 2 * k.down.toNat + 4 * k.left.toNat + 8 * k.right.toNat + 16 * k.hold.toNat
    + 32 * k.exit.toNat + 64 * k.modeManual.toNat + 128 * k.modeTrack.toNat)

/-! ### The decoder -/

/-- The command `i` if the `len` reserved bits from bit `lo` up are all 0 (R81, R88(b)). -/
def reservedZero (w : Word) (lo len : Nat) (i : Instr) : Except DecodeError Instr :=
  if field w lo len = 0 then .ok i else .error .reservedBits

/-- Format N: no operand, bits [26:0] reserved. -/
def decodeN (w : Word) (i : Instr) : Except DecodeError Instr := reservedZero w 0 27 i

/-- Format D: DIR = [1:0], bits [26:2] reserved, code 0b11 illegal. -/
def decodeD (w : Word) (f : Direction → Instr) : Except DecodeError Instr :=
  match directionOfCode (field w 0 2) with
  | some d => reservedZero w 2 25 (f d)
  | none => .error .reservedDirection

/-- Format S: IMM16 = [15:0], bits [26:16] reserved (R82). -/
def decodeS (w : Word) (f : Int → Instr) : Except DecodeError Instr :=
  reservedZero w 16 11 (f (sext16 (field w 0 16)))

/-- Format U: UIMM16 = [15:0], bits [26:16] reserved (R83). -/
def decodeU (w : Word) (f : Nat → Instr) : Except DecodeError Instr :=
  reservedZero w 16 11 (f (zext16 (field w 0 16)))

/-- Format B: SLOT = [26:25], V = [24], X = [23:12], Y = [11:0], no reserved bit (R84). -/
def decodeB (w : Word) : Except DecodeError Instr :=
  .ok (.bslot (field w 25 2).toFin (w.getLsbD 24) (field w 12 12) (field w 0 12))

/-- Format K: KEYS = [7:0], bits [26:8] reserved (R86). -/
def decodeK (w : Word) (f : Keys → Instr) : Except DecodeError Instr :=
  reservedZero w 8 19 (f (keysOfBits (field w 0 8)))

/-- Format M: MD = [0], bits [26:1] reserved (R87). -/
def decodeM (w : Word) (f : Mode → Instr) : Except DecodeError Instr :=
  reservedZero w 1 26 (f (modeOfCode (field w 0 1)))

/-- The command a word encodes, or why the word is illegal (R80, R88, R89): total on every word (R91). -/
def decode (w : Word) : Except DecodeError Instr :=
  match (opcode w).toNat with
  | 0x00 => decodeN w .nop
  | 0x01 => decodeD w .setdir
  | 0x02 => decodeN w .inc
  | 0x03 => decodeN w .dec
  | 0x04 => decodeS w .snapspd
  | 0x05 => decodeU w .rotr
  | 0x06 => decodeU w .rotl
  | 0x07 => decodeS w .snaprot
  | 0x08 => decodeN w .enable
  | 0x09 => decodeN w .disable
  | 0x0A => decodeN w .turnoff
  | 0x10 => decodeN w .bclr
  | 0x11 => decodeB w
  | 0x12 => decodeN w .track
  | 0x14 => decodeK w .manual
  | 0x15 => decodeM w .setmode
  | 0x16 => decodeK w .cycle
  | _ => .error .reservedOpcode

/-! ### Byte-serial transport (20_memory.md R64) -/

/-- The four bytes of a word in travel order: "byte 0 is bits [7:0], and byte 3 is bits [31:24]". -/
def wordBytes (w : Word) : List Byte := [field w 0 8, field w 8 8, field w 16 8, field w 24 8]

/-- The word of four bytes in travel order. -/
def wordOfBytes (b0 b1 b2 b3 : Byte) : Word := b3 ++ b2 ++ b1 ++ b0

/-- The command at the head of a byte sequence, with the bytes after it: total on any bytes. -/
def decodeBytes : List Byte → Except DecodeError (Instr × List Byte)
  | b0 :: b1 :: b2 :: b3 :: rest =>
    match decode (wordOfBytes b0 b1 b2 b3) with
    | .ok i => .ok (i, rest)
    | .error e => .error e
  | _ => .error .truncated

/-- The word a table row's number stands for: the low `nbits` bits of `w`, every bit above them 0. -/
def tableWord (nbits w : Nat) : Word := BitVec.ofNat 32 (w % 2 ^ nbits)

/-- The command the decoder reads from a word numbered as spec/opcode_table.json numbers it, carried as four bytes in
the transport order of R64. -/
def decodeTableWord (nbits w : Nat) : Option Instr :=
  match decodeBytes (wordBytes (tableWord nbits w)) with
  | .ok (i, _) => some i
  | .error _ => none

/-! ### The encoder -/

/-- Format N (R81). -/
def encodeN (op : BitVec 5) : Word := op ++ (0 : BitVec 27)

/-- Format D (R81, R85). -/
def encodeD (op : BitVec 5) (d : Direction) : Word := op ++ (0 : BitVec 25) ++ d.code

/-- Format S (R81, R92): IMM16 = p mod 2^16. -/
def encodeS (op : BitVec 5) (p : Int) : Word := op ++ (0 : BitVec 11) ++ BitVec.ofInt 16 p

/-- Format U (R81, R92): UIMM16 = m. -/
def encodeU (op : BitVec 5) (m : Nat) : Word := op ++ (0 : BitVec 11) ++ BitVec.ofNat 16 m

/-- Format B (R81, R84). -/
def encodeB (op : BitVec 5) (slot : Fin 4) (v : Bool) (x y : BitVec 12) : Word :=
  op ++ (BitVec.ofFin slot : BitVec 2) ++ BitVec.ofBool v ++ x ++ y

/-- Format K (R81, R86). -/
def encodeK (op : BitVec 5) (k : Keys) : Word := op ++ (0 : BitVec 19) ++ k.bits

/-- Format M (R81, R87). -/
def encodeM (op : BitVec 5) (m : Mode) : Word := op ++ (0 : BitVec 26) ++ m.code

/-- The word of a command (R81, R89). -/
def encode : Instr → Word
  | .nop => encodeN 0x00
  | .setdir d => encodeD 0x01 d
  | .inc => encodeN 0x02
  | .dec => encodeN 0x03
  | .snapspd p => encodeS 0x04 p
  | .rotr m => encodeU 0x05 m
  | .rotl m => encodeU 0x06 m
  | .snaprot p => encodeS 0x07 p
  | .enable => encodeN 0x08
  | .disable => encodeN 0x09
  | .turnoff => encodeN 0x0A
  | .bclr => encodeN 0x10
  | .bslot slot v x y => encodeB 0x11 slot v x y
  | .track => encodeN 0x12
  | .manual k => encodeK 0x14 k
  | .setmode m => encodeM 0x15 m
  | .cycle k => encodeK 0x16 k

/-! ### The opcode map as data (R81, R89)

The decoder above does not read this table: the two are written from the spec separately, and a statement says that
they agree. -/

/-- One row of the opcode map: "mask" has a 1 in every bit the decoder compares, "match" is what they are. -/
structure OpcodeRow where
  mnemonic : String
  pattern : Word
  mask : Word
  deriving DecidableEq, Repr

/-- The row of a command (R89). -/
def Instr.row : Instr → OpcodeRow
  | .nop => ⟨"NOP", 0x00000000, 0xFFFFFFFF⟩
  | .setdir _ => ⟨"SETDIR", 0x08000000, 0xFFFFFFFC⟩
  | .inc => ⟨"INC", 0x10000000, 0xFFFFFFFF⟩
  | .dec => ⟨"DEC", 0x18000000, 0xFFFFFFFF⟩
  | .snapspd _ => ⟨"SNAPSPD", 0x20000000, 0xFFFF0000⟩
  | .rotr _ => ⟨"ROTR", 0x28000000, 0xFFFF0000⟩
  | .rotl _ => ⟨"ROTL", 0x30000000, 0xFFFF0000⟩
  | .snaprot _ => ⟨"SNAPROT", 0x38000000, 0xFFFF0000⟩
  | .enable => ⟨"ENABLE", 0x40000000, 0xFFFFFFFF⟩
  | .disable => ⟨"DISABLE", 0x48000000, 0xFFFFFFFF⟩
  | .turnoff => ⟨"TURNOFF", 0x50000000, 0xFFFFFFFF⟩
  | .bclr => ⟨"BCLR", 0x80000000, 0xFFFFFFFF⟩
  | .bslot _ _ _ _ => ⟨"BSLOT", 0x88000000, 0xF8000000⟩
  | .track => ⟨"TRACK", 0x90000000, 0xFFFFFFFF⟩
  | .manual _ => ⟨"MANUAL", 0xA0000000, 0xFFFFFF00⟩
  | .setmode _ => ⟨"SETMODE", 0xA8000000, 0xFFFFFFFE⟩
  | .cycle _ => ⟨"CYCLE", 0xB0000000, 0xFFFFFF00⟩

/-- The seventeen rows in the table's order (R89). -/
def opcodeTable : List OpcodeRow :=
  [ ⟨"NOP", 0x00000000, 0xFFFFFFFF⟩, ⟨"SETDIR", 0x08000000, 0xFFFFFFFC⟩, ⟨"INC", 0x10000000, 0xFFFFFFFF⟩,
    ⟨"DEC", 0x18000000, 0xFFFFFFFF⟩, ⟨"SNAPSPD", 0x20000000, 0xFFFF0000⟩, ⟨"ROTR", 0x28000000, 0xFFFF0000⟩,
    ⟨"ROTL", 0x30000000, 0xFFFF0000⟩, ⟨"SNAPROT", 0x38000000, 0xFFFF0000⟩, ⟨"ENABLE", 0x40000000, 0xFFFFFFFF⟩,
    ⟨"DISABLE", 0x48000000, 0xFFFFFFFF⟩, ⟨"TURNOFF", 0x50000000, 0xFFFFFFFF⟩, ⟨"BCLR", 0x80000000, 0xFFFFFFFF⟩,
    ⟨"BSLOT", 0x88000000, 0xF8000000⟩, ⟨"TRACK", 0x90000000, 0xFFFFFFFF⟩, ⟨"MANUAL", 0xA0000000, 0xFFFFFF00⟩,
    ⟨"SETMODE", 0xA8000000, 0xFFFFFFFE⟩, ⟨"CYCLE", 0xB0000000, 0xFFFFFF00⟩ ]

/-- A word matches a row when its compared bits are the row's pattern (R89). -/
abbrev OpcodeRow.Matches (r : OpcodeRow) (w : Word) : Prop := w &&& r.mask = r.pattern

/-- The legal words by the table (R88, R89): a row matches, and "for SETDIR, the decoder must also refuse
`w[1:0] = 0b11`". -/
abbrev LegalWord (w : Word) : Prop :=
  ∃ r ∈ opcodeTable, r.Matches w ∧ ¬(r.mnemonic = "SETDIR" ∧ w &&& 3 = 3)

/-! ### Legality as rule R88 writes it -/

/-- The seven formats (R81). -/
inductive Format where
  | N
  | D
  | S
  | U
  | B
  | K
  | M
  deriving DecidableEq, Repr

/-- The reserved bits of a format, as a mask (R81). -/
def reservedMask : Format → Word
  | .N => 0x07FFFFFF
  | .D => 0x07FFFFFC
  | .S => 0x07FF0000
  | .U => 0x07FF0000
  | .B => 0x00000000
  | .K => 0x07FFFF00
  | .M => 0x07FFFFFE

/-- The opcodes of R89 with their formats. -/
def opcodeFormats : List (BitVec 5 × Format) :=
  [ (0b00000, .N), (0b00001, .D), (0b00010, .N), (0b00011, .N), (0b00100, .S), (0b00101, .U), (0b00110, .U),
    (0b00111, .S), (0b01000, .N), (0b01001, .N), (0b01010, .N), (0b10000, .N), (0b10001, .B), (0b10010, .N),
    (0b10100, .K), (0b10101, .M), (0b10110, .K) ]

/-- R88: "A command word is illegal when any of these holds": (a) its opcode is no row's, (b) a reserved bit of its
format is 1, (c) it is SETDIR with 0b11. -/
abbrev IllegalWord (w : Word) : Prop :=
  (∀ r ∈ opcodeFormats, r.1 ≠ opcode w)
    ∨ (∃ r ∈ opcodeFormats, r.1 = opcode w ∧ w &&& reservedMask r.2 ≠ 0)
    ∨ (opcode w = 0b00001 ∧ w &&& 3 = 3)

end Sys2Proof
end

