-- ==== Sys2Proof/Machine/ReadPort.lean ====
section
/-! DEFINITION. The register read port (20_memory.md R61, R62; 10_state.md R35): what each address returns. -/

namespace Sys2Proof.Machine

/-- The constant of ID, address 0x00 (10_state.md R35). -/
def idWord : Word := 0x4A430001

/-- FRAMEi: [24] V, [23:12] X, [11:0] Y. -/
def slotWord (t : Slot) : Word := (0 : BitVec 7) ++ BitVec.ofBool t.v ++ t.x ++ t.y

/-- CFG_PWM: [7:0] PWM_CHANNELS, [8] PWM_ATTACHED. -/
def pwmWord (c : Config) : Word :=
  (0 : BitVec 23) ++ BitVec.ofBool c.pwmAttached ++ BitVec.ofNat 8 c.pwmChannels

/-- The word the read port returns for an address: "Bits not listed read as 0", and every address outside the map
reads as 0. The function returns a word and no state: "A read has no side effect" (R62). -/
def readPort (s : State) (a : ReadAddr) : Word :=
  match a.toNat with
  | 0x00 => idWord
  | 0x01 => statusWord s
  | 0x02 => (s.dir.code).setWidth 32
  | 0x03 => (s.mode.code).setWidth 32
  | 0x04 => s.speedQ.setWidth 32
  | 0x05 => s.rotQ.setWidth 32
  | 0x06 => s.trkMem.setWidth 32
  | 0x08 => slotWord s.frame.slot0
  | 0x09 => slotWord s.frame.slot1
  | 0x0A => slotWord s.frame.slot2
  | 0x0B => slotWord s.frame.slot3
  | 0x10 => (BitVec.ofNat 12 s.cfg.xMax).setWidth 32
  | 0x11 => (BitVec.ofNat 12 s.cfg.closestSep).setWidth 32
  | 0x12 => (BitVec.ofNat 8 s.cfg.servoCh).setWidth 32
  | 0x13 => pwmWord s.cfg
  | _ => 0

end Sys2Proof.Machine
end

