-- ==== Sys2Proof/Machine/Prologue.lean ====
section
/-! DEFINITION. What one step does with the next thing on the ports: a command word through the prologue of
43_supervisor.md R235, a read (20_memory.md R62), or reset (70_reset_and_hazards.md R290, R292). -/

namespace Sys2Proof.Machine

/-- The step prologue (R235, 60_exceptions.md R263): the illegal check, then the HALTED gate, then the command's rule. -/
def acceptCommand (w : Word) (s : State) : Host.Outcome State Fault Refusal :=
  match decode w with
  | .error _ => .next (raiseIll s)
  | .ok i => if discarded i s then .next s else exec i s

/-- A read: the word of the address joins what the port has returned; no register changes and no event is emitted
(20_memory.md R62, log 5). -/
def serveRead (a : ReadAddr) (s : State) : State := pushReadData (readPort s a) s

/-- Reset: every register and the event stream as R290 says, at the same parameters; the host's side of the ports stays
(log 6). It emits no event. -/
def applyReset (s : State) : State :=
  { State.resetWith s.cfg with inbox := s.inbox, readData := s.readData }

/-- One input taken off the ports, in order (20_memory.md R66); with none there, the block is idle (60_exceptions.md
R271, log 4). -/
def takeInput (s : State) : Host.Outcome State Fault Refusal :=
  match s.inbox with
  | [] => .next s
  | .command w :: rest => acceptCommand w (setInbox rest s)
  | .read a :: rest => .next (serveRead a (setInbox rest s))
  | .reset :: rest => .next (applyReset (setInbox rest s))

/-- The host puts a command word first on the command port (log 4). -/
def offerFirst (w : Word) (s : State) : State := setInbox (.command w :: s.inbox) s

end Sys2Proof.Machine
end

