-- ==== Sys2Proof/Machine/Step.lean ====
section
/-! DEFINITION. One step of the machine, and the state in which the next step accepts a given command word. The block
has no program counter and no fetch (10_state.md R32, 20_memory.md R69): what runs next is what the host has put on the
command port (log 4). -/

namespace Sys2Proof.Machine

/-- One step: the next input on the ports. -/
def step (s : State) : Host.Outcome State Fault Refusal := takeInput s

/-- The state whose next step accepts the word of a table row: that word stands first on the command port. -/
def State.withFetchWord (s : State) (nbits w : Nat) : State := offerFirst (tableWord nbits w) s

end Sys2Proof.Machine
end

