-- ==== Sys2Proof/Machine/Assembler.lean ====
section
/-! DEFINITION. The assembler syntax (30_encoding.md R92) and the pseudo-instructions (R93): from the text of a line to
its command words. It is a tool of the host, not a part of the block: no step uses it (log 14). -/

namespace Sys2Proof.Machine

/-! ### Tokens -/

/-- A token of a line. -/
inductive Token where
  | ident (name : List Char)
  | number (n : Int)
  | comma
  | openBrace
  | closeBrace
  | openParen
  | closeParen
  deriving DecidableEq, Repr

/-- The value of a digit in the given base; hexadecimal digits in either case. -/
def digitValue (base : Nat) (c : Char) : Option Nat :=
  let n := c.toNat
  let d :=
    if 48 ≤ n ∧ n ≤ 57 then n - 48
    else if 97 ≤ n ∧ n ≤ 102 then n - 87
    else if 65 ≤ n ∧ n ≤ 70 then n - 55
    else base
  if d < base then some d else none

/-- The value of a run of digits after the value `acc`. -/
def digitsFrom (base acc : Nat) : List Char → Option Nat
  | [] => some acc
  | c :: cs =>
    match digitValue base c with
    | some d => digitsFrom base (acc * base + d) cs
    | none => none

/-- The value of at least one digit. -/
def digits (base : Nat) : List Char → Option Nat
  | [] => none
  | c :: cs => digitsFrom base 0 (c :: cs)

/-- A number: "decimal, negative with `-`, or hexadecimal with `0x`" (R92). -/
def numberOf : List Char → Option Int
  | '0' :: 'x' :: cs => (digits 16 cs).map Int.ofNat
  | '-' :: cs => (digits 10 cs).map (fun n => -(Int.ofNat n))
  | cs => (digits 10 cs).map Int.ofNat

/-- A letter of a mnemonic or a key name: upper case or the underscore (R92). -/
def isNameChar (c : Char) : Bool := (65 ≤ c.toNat && c.toNat ≤ 90) || c == '_'

/-- The token of a run of characters between separators: a name or a number. -/
def wordToken (cs : List Char) : Option Token :=
  if cs.all isNameChar then some (.ident cs) else (numberOf cs).map .number

/-- The tokens before `ts` with the pending characters (most recent first) closed off as one token. -/
def flush (pending : List Char) (ts : List Token) : Option (List Token) :=
  match pending with
  | [] => some ts
  | cs => (wordToken cs.reverse).map (· :: ts)

/-- The separator token of a character, if it is one; 123 and 125 are the two braces. -/
def punctuation (c : Char) : Option Token :=
  if c = ',' then some .comma
  else if c = '(' then some .openParen
  else if c = ')' then some .closeParen
  else if c.toNat = 123 then some .openBrace
  else if c.toNat = 125 then some .closeBrace
  else none

/-- The tokens of a line. `pending` holds the characters of the token being read, most recent first, and `ts` the
tokens read, most recent first. `;` starts a comment (R92). -/
def lex (pending : List Char) (ts : List Token) : List Char → Option (List Token)
  | [] => (flush pending ts).map List.reverse
  | c :: cs =>
    if c = ';' then (flush pending ts).map List.reverse
    else if c = ' ' ∨ c = '\t' ∨ c = '\r' then
      match flush pending ts with
      | some ts' => lex [] ts' cs
      | none => none
    else
      match punctuation c with
      | some t =>
        match flush pending ts with
        | some ts' => lex [] (t :: ts') cs
        | none => none
      | none => lex (c :: pending) ts cs

/-- The tokens of a line of text. -/
def tokensOfText (line : List Char) : Option (List Token) := lex [] [] line

/-! ### Lines -/

/-- A pseudo-instruction (R93). -/
inductive Pseudo where
  | stop
  | center
  /-- A FRAME of the points given, in the order written. -/
  | frame (points : List (BitVec 12 × BitVec 12))
  | shutdown
  deriving DecidableEq, Repr

/-- No key pressed. -/
def noKeys : Keys := keysOfBits 0

/-- The BSLOT commands of a FRAME's points, slot by slot from `k` (R93); more points than slots have no expansion. -/
def frameSlots (k : Nat) : List (BitVec 12 × BitVec 12) → Option (List Instr)
  | [] => some []
  | (x, y) :: more =>
    if h : k < 4 then (frameSlots (k + 1) more).map (Instr.bslot ⟨k, h⟩ true x y :: ·) else none

/-- The expansion of a pseudo-instruction (R93). -/
def expandPseudo : Pseudo → Option (List Instr)
  | .stop => some [.snapspd 0]
  | .center => some [.snaprot 50]
  | .frame points => (frameSlots 0 points).map (Instr.bclr :: ·)
  | .shutdown => some [.cycle { noKeys with exit := true }]

/-- One name among the names of a table. -/
def lookupName {α : Type} (name : List Char) : List (String × α) → Option α
  | [] => none
  | (n, a) :: rest => if name = n.toList then some a else lookupName name rest

/-- The commands without operand (R92). -/
def plainCommands : List (String × Instr) :=
  [("NOP", .nop), ("INC", .inc), ("DEC", .dec), ("ENABLE", .enable), ("DISABLE", .disable), ("TURNOFF", .turnoff),
    ("BCLR", .bclr), ("TRACK", .track)]

/-- The directions of SETDIR (R92). -/
def directionNames : List (String × Direction) :=
  [("NEUTRAL", .neutral), ("FORWARD", .forward), ("BACKWARD", .backward)]

/-- The modes of SETMODE (R92). -/
def modeNames : List (String × Mode) := [("MANUAL", .manual), ("TRACK", .track)]

/-- The key names of R86, each with the update that presses it. -/
def pressKey (name : List Char) (k : Keys) : Option Keys :=
  if name = "UP".toList then some { k with up := true }
  else if name = "DOWN".toList then some { k with down := true }
  else if name = "LEFT".toList then some { k with left := true }
  else if name = "RIGHT".toList then some { k with right := true }
  else if name = "HOLD".toList then some { k with hold := true }
  else if name = "EXIT".toList then some { k with exit := true }
  else if name = "MODE_MANUAL".toList then some { k with modeManual := true }
  else if name = "MODE_TRACK".toList then some { k with modeTrack := true }
  else none

/-- The rest of a key list after a key: a closing brace, or a comma and one more key (R92). -/
def keyListRest (k : Keys) : List Token → Option Keys
  | [.closeBrace] => some k
  | .comma :: .ident n :: rest =>
    match pressKey n k with
    | some k' => keyListRest k' rest
    | none => none
  | _ => none

/-- The keys operand of MANUAL and CYCLE: a list of names between braces, an empty one, or a number 0..255 (R92). -/
def keysOperand : List Token → Option Keys
  | [.openBrace, .closeBrace] => some noKeys
  | .openBrace :: .ident n :: rest =>
    match pressKey n noKeys with
    | some k => keyListRest k rest
    | none => none
  | [.number n] => if 0 ≤ n ∧ n ≤ 255 then some (keysOfBits (BitVec.ofInt 8 n)) else none
  | _ => none

/-- A signed percentage operand, refused out of its range (R92). -/
def signedOperand : List Token → Option Int
  | [.number p] => if SignedPercent p then some p else none
  | _ => none

/-- A magnitude operand: "omitted means 0, the default step"; refused out of its range (R92). -/
def magnitudeOperand : List Token → Option Nat
  | [] => some 0
  | [.number m] => if 0 ≤ m ∧ m ≤ 65535 then some m.toNat else none
  | _ => none

/-- A coordinate, 0..4095. -/
def coordinate (n : Int) : Option (BitVec 12) :=
  if 0 ≤ n ∧ n ≤ 4095 then some (BitVec.ofInt 12 n) else none

/-- A slot number, 0..3. -/
def slotNumber (n : Int) : Option (Fin 4) :=
  if n = 0 then some 0 else if n = 1 then some 1 else if n = 2 then some 2 else if n = 3 then some 3 else none

/-- The operands of BSLOT: slot, x, y with V = 1, or slot, NONE with V = 0 and X = Y = 0 (R92). -/
def bslotOperands : List Token → Option Instr
  | [.number k, .comma, .ident n] =>
    if n = "NONE".toList then (slotNumber k).map (fun slot => .bslot slot false 0 0) else none
  | [.number k, .comma, .number x, .comma, .number y] =>
    match slotNumber k, coordinate x, coordinate y with
    | some slot, some x, some y => some (.bslot slot true x y)
    | _, _, _ => none
  | _ => none

/-- The points of FRAME, `(x, y)` separated by commas (R93). -/
def framePoints : List Token → Option (List (BitVec 12 × BitVec 12))
  | [.openParen, .number x, .comma, .number y, .closeParen] =>
    match coordinate x, coordinate y with
    | some x, some y => some [(x, y)]
    | _, _ => none
  | .openParen :: .number x :: .comma :: .number y :: .closeParen :: .comma :: rest =>
    match coordinate x, coordinate y, framePoints rest with
    | some x, some y, some more => some ((x, y) :: more)
    | _, _, _ => none
  | _ => none

/-- One name operand. -/
def nameOperand : List Token → Option (List Char)
  | [.ident n] => some n
  | _ => none

/-- The command of a mnemonic with operands (R92). -/
def commandOf (name : List Char) (operands : List Token) : Option Instr :=
  if name = "SETDIR".toList then
    ((nameOperand operands).bind (lookupName · directionNames)).map .setdir
  else if name = "SNAPSPD".toList then (signedOperand operands).map .snapspd
  else if name = "SNAPROT".toList then (signedOperand operands).map .snaprot
  else if name = "ROTR".toList then (magnitudeOperand operands).map .rotr
  else if name = "ROTL".toList then (magnitudeOperand operands).map .rotl
  else if name = "BSLOT".toList then bslotOperands operands
  else if name = "MANUAL".toList then (keysOperand operands).map .manual
  else if name = "CYCLE".toList then (keysOperand operands).map .cycle
  else if name = "SETMODE".toList then
    ((nameOperand operands).bind (lookupName · modeNames)).map .setmode
  else if operands = [] then lookupName name plainCommands
  else none

/-- The pseudo-instruction of a mnemonic (R93). -/
def pseudoOf (name : List Char) (operands : List Token) : Option Pseudo :=
  if name = "FRAME".toList then
    (if operands = [] then some [] else framePoints operands).map .frame
  else if operands = [] then
    lookupName name [("STOP", .stop), ("CENTER", .center), ("SHUTDOWN", .shutdown)]
  else none

/-- The commands of a line's tokens: none on an empty line, one for a command, its expansion for a pseudo-instruction.
A line that is no command is refused as a whole. -/
def commandsOfTokens : List Token → Option (List Instr)
  | [] => some []
  | .ident name :: operands =>
    match commandOf name operands with
    | some i => some [i]
    | none => (pseudoOf name operands).bind expandPseudo
  | _ :: _ => none

/-- The command words of a line of assembly text (R92, R93), or none when the assembler refuses it. -/
def assembleLine (line : List Char) : Option (List Word) :=
  ((tokensOfText line).bind commandsOfTokens).map (List.map encode)

/-! ### The canonical spelling of a command -/

/-- The key names of R86 that are pressed, in bit order. -/
def pressedNames (k : Keys) : List (List Char) :=
  (if k.up then ["UP".toList] else []) ++ (if k.down then ["DOWN".toList] else [])
    ++ (if k.left then ["LEFT".toList] else []) ++ (if k.right then ["RIGHT".toList] else [])
    ++ (if k.hold then ["HOLD".toList] else []) ++ (if k.exit then ["EXIT".toList] else [])
    ++ (if k.modeManual then ["MODE_MANUAL".toList] else []) ++ (if k.modeTrack then ["MODE_TRACK".toList] else [])

/-- The tokens of a list of names separated by commas. -/
def commaNames : List (List Char) → List Token
  | [] => []
  | [n] => [.ident n]
  | n :: more => .ident n :: .comma :: commaNames more

/-- The keys operand as R92 writes it. -/
def keyTokens (k : Keys) : List Token := [.openBrace] ++ commaNames (pressedNames k) ++ [.closeBrace]

/-- The direction's name. -/
def directionName : Direction → List Char
  | .neutral => "NEUTRAL".toList
  | .forward => "FORWARD".toList
  | .backward => "BACKWARD".toList

/-- The mode's name. -/
def modeName : Mode → List Char
  | .manual => "MANUAL".toList
  | .track => "TRACK".toList

/-- The operand tokens of a command as R92 writes them. -/
def operandTokens : Instr → List Token
  | .nop => []
  | .setdir d => [.ident (directionName d)]
  | .inc => []
  | .dec => []
  | .snapspd p => [.number p]
  | .rotr m => [.number m]
  | .rotl m => [.number m]
  | .snaprot p => [.number p]
  | .enable => []
  | .disable => []
  | .turnoff => []
  | .bclr => []
  | .bslot slot v x y =>
    if v then [.number slot.val, .comma, .number x.toNat, .comma, .number y.toNat]
    else [.number slot.val, .comma, .ident "NONE".toList]
  | .track => []
  | .manual k => keyTokens k
  | .setmode m => [.ident (modeName m)]
  | .cycle k => keyTokens k

/-- The canonical line of a command: its mnemonic, then its operands (R92). -/
def lineTokens (i : Instr) : List Token := .ident i.row.mnemonic.toList :: operandTokens i

/-- The commands that have a spelling of their own (R92): a BSLOT with V = 0 is written NONE, so its X and Y are 0. -/
def Spellable : Instr → Bool
  | .bslot _ v x y => v || (x == 0 && y == 0)
  | _ => true

end Sys2Proof.Machine
end

