-- ==== Sys2Proof/Machine/Drivers.lean ====
section
/-! DEFINITION. What the external drivers last latched, as far as the event stream tells (60_exceptions.md R267):
"A model must represent each as unknown until the block's first event of that kind for that motor or channel"
(70_reset_and_hazards.md R291). `none` is that "unknown"; the block itself holds none of these values (10_state.md R34,
log 10). -/

namespace Sys2Proof.Machine

/-- The value one event brings, or the one known before it. -/
def latest {α : Type} (pick : Event → Option α) (known : Option α) (e : Event) : Option α :=
  match pick e with
  | some v => some v
  | none => known

/-- The last value a driver received from a stream, starting from `none`, unknown. -/
def lastOf {α : Type} (pick : Event → Option α) (es : List Event) : Option α := es.foldl (latest pick) none

/-- The speed value an event brings motor `m`. -/
def speedTo (m : Motor) : Event → Option Nat
  | .spd m' v => if m' = m then some v else none
  | .run _ _ => none
  | .pwm _ _ _ => none

/-- The run signal an event brings motor `m`. -/
def runTo (m : Motor) : Event → Option RunSignal
  | .spd _ _ => none
  | .run m' sig => if m' = m then some sig else none
  | .pwm _ _ _ => none

/-- The off tick an event brings channel `ch`. -/
def tickTo (ch : Nat) : Event → Option Nat
  | .spd _ _ => none
  | .run _ _ => none
  | .pwm ch' _ off => if ch' = ch then some off else none

/-- The speed value motor `m` holds: none if no event has said. -/
def motorSpeed (m : Motor) (s : State) : Option Nat := lastOf (speedTo m) s.events

/-- The run signal motor `m` holds: none if no event has said. -/
def motorRun (m : Motor) (s : State) : Option RunSignal := lastOf (runTo m) s.events

/-- The tick PWM channel `ch` holds: none if no event has said. -/
def channelTick (ch : Nat) (s : State) : Option Nat := lastOf (tickTo ch) s.events

end Sys2Proof.Machine
end

