-- ==== Sys2Proof/Safety.lean ====
section
/-! DEFINITION. What counts as a safe state of the JC-MCB, in the terms the statements use: the invariants of
10_state.md R30, the ranges of the output events (40_actuator.md R110, R131), the pairing of the two motors (R116), and
the agreement of the registers with what the drivers were last sent (20_memory.md R67). -/

namespace Sys2Proof.Safety

open Sys2Proof.Machine

/-- I1 (R30): Speed in [0,100]. -/
abbrev SpeedInRange (s : State) : Prop := s.speedQ.toNat ≤ spdMaxQ s.cfg

/-- I2 (R30): Rotation in [0,100]. -/
abbrev RotationInRange (s : State) : Prop := s.rotQ.toNat ≤ rotMaxQ s.cfg

/-- I3 (R30): Direction = Neutral implies Speed = 0. -/
abbrev NeutralIsStopped (s : State) : Prop := s.dir = .neutral → s.speedQ = 0

/-- I4 (R30): the code of DIR is never 0b11. -/
abbrev DirectionIsLegal (s : State) : Prop := s.dir.code ≠ 0b11

/-- The invariants I1 to I4 of R30. -/
abbrev Invariants (s : State) : Prop :=
  SpeedInRange s ∧ RotationInRange s ∧ NeutralIsStopped s ∧ DirectionIsLegal s

/-- An event within the drivers' ranges (R110): a speed value in [0,255]; onTick 0 and offTick in [0,4095]; a channel
that exists. -/
def EventOk (c : Config) : Event → Bool
  | .spd _ v => decide (v ≤ 255)
  | .run _ _ => true
  | .pwm ch on off => decide (ch < c.pwmChannels) && decide (on = 0) && decide (off ≤ 4095)

/-- Every event of the stream is within its range: "no command is ever issued to the actuators with an out-of-range
value" (10_state.md R30, 40_actuator.md R131). -/
abbrev EventsInRange (s : State) : Prop := ∀ e ∈ s.events, EventOk s.cfg e = true

/-- An absent slot holds X = Y = 0 (10_state.md R26, 41_tracking.md R160, R161). -/
abbrev SlotOk (t : Slot) : Prop := t.v = false → t.x = 0 ∧ t.y = 0

/-- Every absent slot of the frame holds X = Y = 0. -/
abbrev AbsentSlotsAreZero (s : State) : Prop := ∀ i : Fin 4, SlotOk (s.frame.get i)

/-- Whether `b` is motor 2's copy of motor 1's event `a`. -/
def isSecondOf (a b : Event) : Bool :=
  match a, b with
  | .spd .m1 v, .spd .m2 v' => v = v'
  | .run .m1 sig, .run .m2 sig' => sig = sig'
  | _, _ => false

/-- Whether an event is for a motor. -/
def isMotorEvent : Event → Bool
  | .spd _ _ => true
  | .run _ _ => true
  | .pwm _ _ _ => false

/-- A stream in which every motor event is motor 1's followed at once by the same event for motor 2
(40_actuator.md R116). -/
def motorsPaired : List Event → Bool
  | [] => true
  | [e] => !isMotorEvent e
  | a :: b :: rest =>
    if isMotorEvent a then isSecondOf a b && motorsPaired rest else motorsPaired (b :: rest)

/-- R116 of the whole stream: "The two motors always receive the same speed value and the same run signal". -/
abbrev MotorsPaired (s : State) : Prop := motorsPaired s.events = true

/-- What a motor was last sent is the encoding of SPEED_Q, if it was sent a speed at all (R113, 20_memory.md R67). -/
abbrev SpeedIsApplied (s : State) : Prop :=
  ∀ m : Motor, motorSpeed m s = none ∨ motorSpeed m s = some (spdByte s.cfg s.speedQ.toNat)

/-- The steering channel was sent nothing, or the tick of ROT_Q, or the 0 of a TURNOFF (R114, R130, 20_memory.md R67). -/
abbrev RotationIsApplied (s : State) : Prop :=
  channelTick s.cfg.servoCh s = none ∨ channelTick s.cfg.servoCh s = some (servoTick s.cfg s.rotQ.toNat)
    ∨ channelTick s.cfg.servoCh s = some 0

/-- The block was instantiated at legal parameters (00_scope.md R6, log 3). -/
abbrev LegalConfig (s : State) : Prop := s.cfg.Legal

/-! ### The terms of the statements about whole commands -/

/-- `a` is the point of `ps` at the smallest index whose Y is the greatest (41_tracking.md R164, the choice of `ka`). -/
def FirstGreatestY (ps : List Slot) (a : Slot) : Prop :=
  ∃ k : Nat, ps[k]? = some a ∧ (∀ p ∈ ps, p.y.toNat ≤ a.y.toNat)
    ∧ ∀ j < k, ∀ p, ps[j]? = some p → p.y.toNat < a.y.toNat

/-- `b` is the point of `ps` at the smallest index whose Y is the least (41_tracking.md R164, the choice of `kb`). -/
def FirstLeastY (ps : List Slot) (b : Slot) : Prop :=
  ∃ k : Nat, ps[k]? = some b ∧ (∀ p ∈ ps, b.y.toNat ≤ p.y.toNat)
    ∧ ∀ j < k, ∀ p, ps[j]? = some p → b.y.toNat < p.y.toNat

/-- The pair a TRACK steers by: the two points there are, or the pair of R164 when there are more (R165, R167). -/
def TrackedPair (f : Frame) (a b : Slot) : Prop :=
  validPoints f = [a, b]
    ∨ (2 < (validPoints f).length ∧ FirstGreatestY (validPoints f) a ∧ FirstLeastY (validPoints f) b)

/-- The two SPD events of a speed write of `q` (40_actuator.md R113). -/
def speedEvents (c : Config) (q : Nat) : List Event := [.spd .m1 (spdByte c q), .spd .m2 (spdByte c q)]

/-- The PWM event of a rotation write of `q` (40_actuator.md R114). -/
def rotationEvents (c : Config) (q : Nat) : List Event := [.pwm c.servoCh 0 (servoTick c q)]

/-- The two RUN events of a run signal (40_actuator.md R116). -/
def runEvents (sig : RunSignal) : List Event := [.run .m1 sig, .run .m2 sig]

/-- Whether an event is a RUN. -/
def isRunEvent : Event → Bool
  | .spd _ _ => false
  | .run _ _ => true
  | .pwm _ _ _ => false

/-- Step 1 of a manual cycle, told by the commands whose micro-operations it runs (42_manual.md R200 step 1, R205;
00_scope.md R10): `u` is the state after it. -/
def DriveKeys (k : Keys) (s u : State) : Prop :=
  if k.up = true ∧ k.down = false then
    match s.dir with
    | .neutral => exec (.setdir .forward) s = .next u
    | .forward => exec .inc s = .next u
    | .backward =>
      ∃ v, exec .dec s = .next v ∧ if v.speedQ = 0 then exec (.setdir .forward) v = .next u else u = v
  else if k.down = true ∧ k.up = false then
    match s.dir with
    | .neutral => exec (.setdir .backward) s = .next u
    | .forward =>
      ∃ v, exec .dec s = .next v ∧ if v.speedQ = 0 then exec (.setdir .backward) v = .next u else u = v
    | .backward => exec .inc s = .next u
  else u = s

/-- Step 2 of a manual cycle (42_manual.md R200 step 2, R203, R205): LEFT runs ROTR and RIGHT runs ROTL, both with the
default magnitude. -/
def SteerKeys (k : Keys) (s u : State) : Prop :=
  if k.left = true ∧ k.right = false then exec (.rotr 0) s = .next u
  else if k.right = true ∧ k.left = false then exec (.rotl 0) s = .next u
  else u = s

end Sys2Proof.Safety
end

