-- ==== Sys2Proof/Certificates/Slice0/Obligations.lean ====
section
/-! DEFINITION. The statements for the provers, from the numbered rules of spec/. Each docstring names the rule it
formalises; "model's choice" marks what rests on a log entry instead. -/

open Sys2Proof Sys2Proof.Machine Sys2Proof.Safety

/-! ### Encoding (30_encoding.md) -/

/-- Decoding the word of a well-formed command gives the command back: every format of R81 keeps every operand bit
(R82 to R87). -/
def Obligations.DecodeOfEncodeIsTheCommand : Prop :=
  ∀ i : Instr, i.WellFormed → decode (encode i) = .ok i

/-- Every legal word has one meaning: the command decoded from it is well formed and encodes to that very word, so no
bit of a legal word is dropped. -/
def Obligations.EncodeOfDecodeIsTheWord : Prop :=
  ∀ (w : Word) (i : Instr), decode w = .ok i → i.WellFormed ∧ encode i = w

/-- The decoder refuses exactly the illegal words of R88 (a), (b), (c), and these are exactly the words that the
match and mask columns of R89, with the SETDIR exception, do not admit. -/
def Obligations.DecoderRefusesExactlyTheIllegalWords : Prop :=
  ∀ w : Word,
    ((∃ e, decode w = .error e) ↔ IllegalWord w)
    ∧ (IllegalWord w ↔ ¬ LegalWord w)

/-- R91: each word is a word of at most one row, and the decoder reads a legal word as a command of that row. -/
def Obligations.EveryLegalWordIsOfOneRow : Prop :=
  ∀ w : Word,
    (∀ r ∈ opcodeTable, ∀ r' ∈ opcodeTable, r.Matches w → r'.Matches w → r = r')
    ∧ ∀ i, decode w = .ok i → i.row ∈ opcodeTable ∧ i.row.Matches w

/-- Words written out in 95_test_vectors.md section 6.1 decode to the commands they are listed for, one of every
family and format. -/
def Obligations.PrintedWordsDecodeAsListed : Prop :=
  decode 0x00000000 = .ok .nop ∧ decode 0x08000002 = .ok (.setdir .backward) ∧ decode 0x10000000 = .ok .inc
  ∧ decode 0x2000FFFF = .ok (.snapspd (-1)) ∧ decode 0x20008000 = .ok (.snapspd (-32768))
  ∧ decode 0x3000FFFF = .ok (.rotl 65535) ∧ decode 0x38000014 = .ok (.snaprot 20)
  ∧ decode 0x8B12C032 = .ok (.bslot 1 true 300 50) ∧ decode 0x8C000000 = .ok (.bslot 2 false 0 0)
  ∧ decode 0x90000000 = .ok .track
  ∧ decode 0xA0000016 = .ok (.manual { noKeys with down := true, left := true, hold := true })
  ∧ decode 0xA8000001 = .ok (.setmode .track)
  ∧ decode 0xB0000051 = .ok (.cycle { noKeys with up := true, hold := true, modeManual := true })

/-- R64 as the model reads a byte-serial transport (log 13): the first of four bytes is bits [7:0] and the last bits
[31:24], and the bytes of a word give that word's command and leave the bytes after it. -/
def Obligations.TransportBytesTravelLeastSignificantFirst : Prop :=
  (∀ b0 b1 b2 b3 : Byte, (wordOfBytes b0 b1 b2 b3).toNat
      = b0.toNat + 2 ^ 8 * b1.toNat + 2 ^ 16 * b2.toNat + 2 ^ 24 * b3.toNat)
  ∧ (∀ (w : Word) (i : Instr) (rest : List Byte), decode w = .ok i →
      decodeBytes (wordBytes w ++ rest) = .ok (i, rest))
  ∧ (∀ (w : Word) (e : DecodeError) (rest : List Byte), decode w = .error e →
      decodeBytes (wordBytes w ++ rest) = .error e)

/-- The assembler reads the canonical spelling of a well-formed command as that command (R92); a BSLOT with V = 0 has
the spelling NONE, so its X and Y are 0. The spelling is the model's choice of tokens (log 14). -/
def Obligations.AssemblerReadsEverySpelling : Prop :=
  ∀ i : Instr, i.WellFormed → Spellable i = true → commandsOfTokens (lineTokens i) = some [i]

/-- R93: the pseudo-instructions and their expansions; STOP does nothing while DIR = NEUTRAL. -/
def Obligations.PseudoInstructionsExpand : Prop :=
  expandPseudo .stop = some [.snapspd 0]
  ∧ expandPseudo .center = some [.snaprot 50]
  ∧ expandPseudo .shutdown = some [.cycle { noKeys with exit := true }]
  ∧ expandPseudo (.frame []) = some [.bclr]
  ∧ (∀ ps : List (BitVec 12 × BitVec 12), ps.length ≤ 4 →
      ∃ l, expandPseudo (.frame ps) = some (.bclr :: l) ∧ l.length = ps.length
        ∧ ∀ (k : Fin 4) (x y : BitVec 12), ps[k.val]? = some (x, y) → l[k.val]? = some (.bslot k true x y))
  ∧ (∀ s : State, s.dir = .neutral → exec (.snapspd 0) s = .next s)

/-! ### The step (43_supervisor.md R235, 20_memory.md, 70_reset_and_hazards.md) -/

/-- R235: the illegal check, then the HALTED gate, then the command's rule. A command whose word stands first on the
command port and passes the gate makes the step run exactly that command, on the state with the word taken off. While
HALTED every command but NOP and TURNOFF is discarded and the read port still answers. -/
def Obligations.StepRunsTheDecodedCommand : Prop :=
  (∀ (s : State) (w : Word) (rest : List HostInput), s.inbox = .command w :: rest →
    (IllegalWord w → step s = .next { s with inbox := rest, ill := true })
    ∧ (∀ i, decode w = .ok i → s.halted = true → i ≠ .nop → i ≠ .turnoff →
        step s = .next { s with inbox := rest })
    ∧ (∀ i, decode w = .ok i → (s.halted = false ∨ i = .nop ∨ i = .turnoff) →
        step s = exec i { s with inbox := rest }))
  ∧ ∀ (s : State) (a : ReadAddr) (rest : List HostInput), s.halted = true → s.inbox = .read a :: rest →
      ∃ t, step s = .next t ∧ t.readData = s.readData ++ [readPort s a]

/-- R88: an illegal word has exactly one effect, `ILL <- 1`, whatever HALTED holds, and the step completes. -/
def Obligations.IllegalWordOnlySetsIll : Prop :=
  ∀ (s : State) (w : Word) (rest : List HostInput), s.inbox = .command w :: rest → IllegalWord w →
    ∃ t, step s = .next t ∧ t = { s with inbox := rest, ill := true } ∧ t.events = s.events
      ∧ readPort t 0x01 = readPort s 0x01 ||| 2

/-- R62: a read returns the register's value in the state it finds, changes no register and emits nothing, in every
state, HALTED or not; a reserved address reads 0. The list of returned words is the model's own (log 5). -/
def Obligations.ReadHasNoSideEffect : Prop :=
  (∀ (s : State) (a : ReadAddr) (rest : List HostInput), s.inbox = .read a :: rest →
    step s = .next { s with inbox := rest, readData := s.readData ++ [readPort s a] })
  ∧ ∀ (s : State) (a : ReadAddr),
      a.toNat = 7 ∨ (12 ≤ a.toNat ∧ a.toNat ≤ 15) ∨ 20 ≤ a.toNat → readPort s a = 0

/-- R61: the register map, field by field; every bit not listed reads 0. -/
def Obligations.ReadPortShowsTheRegisters : Prop :=
  ∀ s : State,
    readPort s 0x00 = 0x4A430001
    ∧ (readPort s 0x01).toNat = s.halted.toNat + 2 * s.ill.toNat
    ∧ (readPort s 0x02).toNat = (match s.dir with | .neutral => 0 | .forward => 1 | .backward => 2)
    ∧ (readPort s 0x03).toNat = (match s.mode with | .manual => 0 | .track => 1)
    ∧ (readPort s 0x04).toNat = s.speedQ.toNat
    ∧ (readPort s 0x05).toNat = s.rotQ.toNat
    ∧ (readPort s 0x06).toNat = s.trkMem.toNat
    ∧ (∀ i : Fin 4, (readPort s (BitVec.ofNat 8 (8 + i.val))).toNat
        = (s.frame.get i).v.toNat * 2 ^ 24 + (s.frame.get i).x.toNat * 2 ^ 12 + (s.frame.get i).y.toNat)
    ∧ (readPort s 0x10).toNat = s.cfg.xMax % 2 ^ 12
    ∧ (readPort s 0x11).toNat = s.cfg.closestSep % 2 ^ 12
    ∧ (readPort s 0x12).toNat = s.cfg.servoCh % 2 ^ 8
    ∧ (readPort s 0x13).toNat = s.cfg.pwmChannels % 2 ^ 8 + 2 ^ 8 * s.cfg.pwmAttached.toNat
    ∧ (∀ a : ReadAddr, a.toNat = 7 ∨ (12 ≤ a.toNat ∧ a.toNat ≤ 15) ∨ 20 ≤ a.toNat → readPort s a = 0)

/-- R290: the reset value of every register at every parameter value of R6, the empty event stream, and the invariants
of 10_state.md R30 in it. -/
def Obligations.ResetPutsEveryRegister : Prop :=
  (∀ n : Nat, ({ closestSep := n } : Config).memInit = n) ∧
  ∀ c : Config, c.xMax ≤ 4095 → c.memInit ≤ 4095 →
    (State.resetWith c).dir = .neutral
    ∧ (State.resetWith c).speedQ = 0
    ∧ (State.resetWith c).rotQ.toNat = 100 * c.xMax
    ∧ (State.resetWith c).trkMem.toNat = c.memInit
    ∧ (State.resetWith c).mode = .manual
    ∧ (∀ i : Fin 4, (State.resetWith c).frame.get i = ⟨false, 0, 0⟩)
    ∧ (State.resetWith c).halted = false
    ∧ (State.resetWith c).ill = false
    ∧ (State.resetWith c).events = []
    ∧ Invariants (State.resetWith c)

/-- The model's reset step and idle step (R290, R292; 60_exceptions.md R271 "the block is idle between commands by
construction"). That reset stands in the input list, that it keeps the rest of it and the words already read, and that
a step with nothing on the ports changes nothing, is the model's choice (log 4, 5 and 6). Reset puts every register at
its reset value, keeps the parameters and emits nothing. -/
def Obligations.ResetActsBetweenCommands : Prop :=
  (∀ (s : State) (rest : List HostInput), s.inbox = .reset :: rest →
    ∃ t, step s = .next t ∧ t = { State.resetWith s.cfg with inbox := rest, readData := s.readData }
      ∧ t.events = [])
  ∧ ∀ s : State, s.inbox = [] → step s = .next s

/-- Every command completes from every state, and so does every step: no exception, no trap (60_exceptions.md section
1). -/
def Obligations.EveryCommandAndStepCompletes : Prop :=
  (∀ (i : Instr) (s : State), ∃ t, exec i s = .next t) ∧ (∀ s : State, ∃ t, step s = .next t)

/-- R291: after reset the run signal and the speed of each motor and the tick of each channel are unknown, and each
stays unknown over a step that emits no event of its kind for it. -/
def Obligations.DriversAreUnknownUntilTheirFirstEvent : Prop :=
  (∀ (c : Config) (m : Motor) (ch : Nat),
    motorRun m (State.resetWith c) = none ∧ motorSpeed m (State.resetWith c) = none
      ∧ channelTick ch (State.resetWith c) = none)
  ∧ (∀ (s t : State) (es : List Event), t.events = s.events ++ es →
      (∀ m, (∀ sig, Event.run m sig ∉ es) → motorRun m t = motorRun m s)
      ∧ (∀ m, (∀ v, Event.spd m v ∉ es) → motorSpeed m t = motorSpeed m s)
      ∧ (∀ ch, (∀ on off, Event.pwm ch on off ∉ es) → channelTick ch t = channelTick ch s))

/-- R293, the recommended boot: DISABLE then SNAPROT 50, from any state, releases both motors at the drivers and sends
the steering channel the tick of the centre. -/
def Obligations.RecommendedBootMakesTheDriversKnown : Prop :=
  ∀ s : State, s.cfg.xMax ≤ 4095 →
    ∃ u t, exec .disable s = .next u ∧ exec (.snaprot 50) u = .next t
      ∧ t.rotQ.toNat = 50 * rotDen s.cfg
      ∧ (∀ m, motorRun m t = some .release)
      ∧ channelTick s.cfg.servoCh t = some (servoTick s.cfg (50 * rotDen s.cfg))

/-! ### The encoders and the laws -/

/-- R24, `round_he`, and the `half_up` it may be replaced by: the result is the nearest integer; at an exact tie the
first takes the even neighbour and the second the upper one; away from ties the two agree. -/
def Obligations.RoundingTakesTheNearestInteger : Prop :=
  ∀ num den : Nat, 0 < den →
    (∀ mode, 2 * ((num : Int) - (roundDiv mode num den * den : Nat)).natAbs ≤ den)
    ∧ (2 * ((num : Int) - (roundDiv .halfEven num den * den : Nat)).natAbs = den →
        roundDiv .halfEven num den % 2 = 0)
    ∧ (2 * ((num : Int) - (roundDiv .halfUp num den * den : Nat)).natAbs = den →
        num < roundDiv .halfUp num den * den)
    ∧ (roundDiv .halfEven num den ≠ roundDiv .halfUp num den → 2 * (num % den) = den)

/-- The motor speed encoder (40_actuator.md section 1): over the legal speeds it never decreases, it starts at 0 and
ends at SPD_FULL, so every value it gives is within [0, SPD_FULL]. -/
def Obligations.SpeedByteIsMonotoneFromZeroToFull : Prop :=
  ∀ c : Config, 1 ≤ c.closestSep →
    spdByte c 0 = 0 ∧ spdByte c (spdMaxQ c) = c.spdFull
    ∧ (∀ q q', q ≤ q' → spdByte c q ≤ spdByte c q')
    ∧ (∀ q, q ≤ spdMaxQ c → spdByte c q ≤ c.spdFull)

/-- The servo tick encoder (40_actuator.md section 1): monotonically non-decreasing, and within [0, PWM_FULL] over the
legal rotations when the duty at Rotation 100 is at most 100 % (that bound is the model's reading, log 3). -/
def Obligations.ServoTickIsMonotoneAndInRange : Prop :=
  ∀ c : Config, 1 ≤ c.xMax → 1 ≤ c.servoSlopeDen →
    (∀ q q', q ≤ q' → servoTick c q ≤ servoTick c q')
    ∧ (100 * c.servoSlopeNum + c.servoBase * c.servoSlopeDen ≤ 100 * c.servoSlopeDen →
        ∀ q, q ≤ rotMaxQ c → servoTick c q ≤ c.pwmFull)

/-- R163: the three regions of the speed law, the ramp as (1 - sep/C) * 100 percent, and the listed values at C = 450. -/
def Obligations.SpeedLawHasItsThreeRegions : Prop :=
  (∀ (c : Config) (sep : Nat),
    (c.closestSep ≤ sep → speedFromSeparationQ c sep = 0)
    ∧ (sep < c.closestSep → 3 * c.closestSep ≤ 4 * sep → speedFromSeparationQ c sep = 25 * spdDen c)
    ∧ (4 * sep < 3 * c.closestSep →
        speedFromSeparationQ c sep = 200 * (c.closestSep - sep)
        ∧ speedFromSeparationQ c sep * c.closestSep = (c.closestSep - sep) * 100 * spdDen c))
  ∧ ∀ c : Config, c.closestSep = 450 →
    [450, 400, 338, 337, 225, 50, 0].map (speedFromSeparationQ c)
      = [0, 22500, 22500, 22600, 45000, 80000, 90000]

/-- 41_tracking.md section 3 (the spec's derived properties of the speed law): non-increasing; always even; within
[0,100] % and its half within [0,50] %; the ramp meets the plateau at 0.75*C; the one jump is at sep = C. -/
def Obligations.SpeedLawNeverIncreases : Prop :=
  ∀ c : Config,
    (∀ sep sep', sep ≤ sep' → speedFromSeparationQ c sep' ≤ speedFromSeparationQ c sep)
    ∧ (∀ sep, speedFromSeparationQ c sep % 2 = 0)
    ∧ (∀ sep, speedFromSeparationQ c sep ≤ spdMaxQ c ∧ speedFromSeparationQ c sep / 2 ≤ 50 * spdDen c)
    ∧ (∀ sep, 4 * sep = 3 * c.closestSep → 200 * (c.closestSep - sep) = 25 * spdDen c)
    ∧ (4 ≤ c.closestSep → speedFromSeparationQ c (c.closestSep - 1) = 25 * spdDen c
        ∧ speedFromSeparationQ c c.closestSep = 0)

/-- R164: with more than two points, the pair is the first point of greatest Y and the first of least Y, chosen
independently; when all Y are equal, both are the first point, the separation is 0 and the midpoint is that point's x. -/
def Obligations.AmbiguousPairIsFirstGreatestAndFirstLeast : Prop :=
  ∀ (p : Slot) (ps : List Slot),
    FirstGreatestY (p :: ps) (firstMaxY p ps)
    ∧ FirstLeastY (p :: ps) (firstMinY p ps)
    ∧ ((∀ q ∈ ps, q.y = p.y) → firstMaxY p ps = p ∧ firstMinY p ps = p
        ∧ separation (firstMaxY p ps) (firstMinY p ps) = 0
        ∧ steerPairQ (firstMaxY p ps) (firstMinY p ps) = steerOneQ p)

/-! ### ActuatorState commands (40_actuator.md) -/

/-- R120: SETDIR. FORWARD and BACKWARD write DIR alone; NEUTRAL also forces SPEED_Q to 0 and emits SPD(1,0), SPD(2,0). -/
def Obligations.SetdirWritesDirAndNeutralStops : Prop :=
  (∀ (s : State) (d : Direction), d ≠ .neutral → exec (.setdir d) s = .next { s with dir := d })
  ∧ (∀ s : State, 1 ≤ s.cfg.closestSep →
      exec (.setdir .neutral) s
        = .next { s with dir := .neutral, speedQ := 0, events := s.events ++ [.spd .m1 0, .spd .m2 0] })
  ∧ encode (.setdir .neutral) = 0x08000000 ∧ encode (.setdir .forward) = 0x08000001
  ∧ encode (.setdir .backward) = 0x08000002 ∧ IllegalWord 0x08000003

/-- R121: INC. A no-op while NEUTRAL; otherwise Speed goes up by STEP percent (the 5 of the rule, log 12) and saturates
at 100, both SPD events are emitted, and nothing else changes. -/
def Obligations.IncRampsUpAndSaturates : Prop :=
  encode .inc = 0x10000000 ∧
  ∀ s : State, s.cfg.closestSep ≤ 4095 →
    (s.dir = .neutral → exec .inc s = .next s)
    ∧ (s.dir ≠ .neutral → ∃ t, exec .inc s = .next t
        ∧ t.speedQ.toNat = min (s.speedQ.toNat + s.cfg.step * spdDen s.cfg) (spdMaxQ s.cfg)
        ∧ t = { s with speedQ := t.speedQ, events := s.events ++ speedEvents s.cfg t.speedQ.toNat })

/-- R122: DEC. A no-op while NEUTRAL; otherwise Speed goes down by STEP percent (log 12) and saturates at 0; DIR never
changes. -/
def Obligations.DecRampsDownAndKeepsDir : Prop :=
  encode .dec = 0x18000000 ∧
  ∀ s : State,
    (s.dir = .neutral → exec .dec s = .next s)
    ∧ (s.dir ≠ .neutral → ∃ t, exec .dec s = .next t
        ∧ (t.speedQ.toNat : Int) = max ((s.speedQ.toNat : Int) - s.cfg.step * spdDen s.cfg) 0
        ∧ t = { s with speedQ := t.speedQ, events := s.events ++ speedEvents s.cfg t.speedQ.toNat })

/-- R123: SNAPSPD. Ignored while NEUTRAL and outside [0,100]; otherwise SPEED_Q is exactly p percent and both SPD events
are emitted. -/
def Obligations.SnapspdSetsExactlyOrIsIgnored : Prop :=
  (∀ p : Int, (encode (.snapspd p)).toNat = 0x20000000 + (p % 65536).toNat) ∧
  ∀ (s : State) (p : Int), 1 ≤ s.cfg.closestSep → s.cfg.closestSep ≤ 4095 →
    (s.dir = .neutral ∨ p < 0 ∨ 100 < p → exec (.snapspd p) s = .next s)
    ∧ (s.dir ≠ .neutral → 0 ≤ p → p ≤ 100 → ∃ t, exec (.snapspd p) s = .next t
        ∧ (t.speedQ.toNat : Int) = p * spdDen s.cfg
        ∧ t = { s with speedQ := t.speedQ, events := s.events ++ speedEvents s.cfg t.speedQ.toNat })

/-- R124, R125: ROTR. Rotation goes down by m percent, 1 when m is 0; a move past 0 is ignored, a move onto 0 is taken;
every DIR. -/
def Obligations.RotrMovesDownOrIsIgnored : Prop :=
  (∀ m : Nat, m ≤ 65535 → (encode (.rotr m)).toNat = 0x28000000 + m) ∧
  ∀ (s : State) (m n : Nat), n = (if m = 0 then 1 else m) →
    (s.rotQ.toNat < n * rotDen s.cfg → exec (.rotr m) s = .next s)
    ∧ (n * rotDen s.cfg ≤ s.rotQ.toNat → ∃ t, exec (.rotr m) s = .next t
        ∧ t.rotQ.toNat + n * rotDen s.cfg = s.rotQ.toNat
        ∧ t = { s with rotQ := t.rotQ, events := s.events ++ rotationEvents s.cfg t.rotQ.toNat })

/-- R124, R126: ROTL. Rotation goes up by m percent, 1 when m is 0; a move past 100 is ignored, a move onto 100 is
taken; any magnitude above 100 is ignored; every DIR. -/
def Obligations.RotlMovesUpOrIsIgnored : Prop :=
  (∀ m : Nat, m ≤ 65535 → (encode (.rotl m)).toNat = 0x30000000 + m) ∧
  ∀ (s : State) (m n : Nat), 1 ≤ s.cfg.xMax → s.cfg.xMax ≤ 4095 → n = (if m = 0 then 1 else m) →
    (rotMaxQ s.cfg < s.rotQ.toNat + n * rotDen s.cfg → exec (.rotl m) s = .next s)
    ∧ (100 < n → exec (.rotl m) s = .next s)
    ∧ (s.rotQ.toNat + n * rotDen s.cfg ≤ rotMaxQ s.cfg → ∃ t, exec (.rotl m) s = .next t
        ∧ t.rotQ.toNat = s.rotQ.toNat + n * rotDen s.cfg
        ∧ t = { s with rotQ := t.rotQ, events := s.events ++ rotationEvents s.cfg t.rotQ.toNat })

/-- R127: SNAPROT. Ignored outside [0,100]; otherwise ROT_Q is exactly p percent, whatever DIR holds. -/
def Obligations.SnaprotSetsExactlyOrIsIgnored : Prop :=
  (∀ p : Int, (encode (.snaprot p)).toNat = 0x38000000 + (p % 65536).toNat) ∧
  ∀ (s : State) (p : Int), 1 ≤ s.cfg.xMax → s.cfg.xMax ≤ 4095 →
    (p < 0 ∨ 100 < p → exec (.snaprot p) s = .next s)
    ∧ (0 ≤ p → p ≤ 100 → ∃ t, exec (.snaprot p) s = .next t
        ∧ (t.rotQ.toNat : Int) = p * rotDen s.cfg
        ∧ t = { s with rotQ := t.rotQ, events := s.events ++ rotationEvents s.cfg t.rotQ.toNat })

/-- R128 with R115, and R129: ENABLE sends the current direction to both motors, motor 1 first, and DISABLE sends both
RELEASE in every DIR; neither changes a register. -/
def Obligations.EnableAndDisableOnlySendRunSignals : Prop :=
  encode .enable = 0x40000000 ∧ encode .disable = 0x48000000 ∧
  ∀ s : State,
    exec .enable s = .next { s with events := s.events ++
      (match s.dir with
        | .neutral => runEvents .release
        | .forward => runEvents .forward
        | .backward => runEvents .backward) }
    ∧ exec .disable s = .next { s with events := s.events ++ runEvents .release }

/-- R130: TURNOFF. DIR NEUTRAL, SPEED_Q 0, RELEASE and speed 0 to both motors, every PWM channel zeroed in order if one
is attached; nothing else changes, HALTED among it; a second TURNOFF leaves every register as the first left it and
emits the same list again. -/
def Obligations.TurnoffIsTheFailSafe : Prop :=
  encode .turnoff = 0x50000000 ∧ (∀ s : State, discarded .turnoff s = false) ∧
  ∀ s : State, 1 ≤ s.cfg.closestSep →
    ∃ t es, exec .turnoff s = .next t
      ∧ es = runEvents .release ++ [.spd .m1 0, .spd .m2 0]
          ++ (if s.cfg.pwmAttached then (List.range s.cfg.pwmChannels).map (fun ch => .pwm ch 0 0) else [])
      ∧ t = { s with dir := .neutral, speedQ := 0, events := s.events ++ es }
      ∧ exec .turnoff t = .next { t with events := t.events ++ es }

/-- R130 at the drivers: after TURNOFF both motors are released at speed 0 and, with a PWM controller attached, every
channel holds tick 0, the servo's among them. -/
def Obligations.TurnoffLeavesTheDriversAtRest : Prop :=
  ∀ (s t : State), 1 ≤ s.cfg.closestSep → exec .turnoff s = .next t →
    (∀ m, motorRun m t = some .release ∧ motorSpeed m t = some 0)
    ∧ (s.cfg.pwmAttached = true → ∀ ch, ch < s.cfg.pwmChannels → channelTick ch t = some 0)
    ∧ (s.cfg.pwmAttached = false → ∀ ch, channelTick ch t = channelTick ch s)

/-! ### Frame and tracking commands (41_tracking.md) -/

/-- R160: BCLR makes every slot absent with X = Y = 0, emits nothing and changes nothing else. -/
def Obligations.BclrEmptiesTheFrame : Prop :=
  encode .bclr = 0x80000000 ∧
  ∀ s : State, ∃ t, exec .bclr s = .next t ∧ t = { s with frame := t.frame }
    ∧ ∀ i : Fin 4, t.frame.get i = ⟨false, 0, 0⟩

/-- R161: BSLOT loads one slot, absent with X = Y = 0 when V = 0; the other three slots and everything else stay; no
event. -/
def Obligations.BslotLoadsOneSlot : Prop :=
  (∀ (slot : Fin 4) (v : Bool) (x y : BitVec 12), (encode (.bslot slot v x y)).toNat
      = 0x88000000 + slot.val * 2 ^ 25 + v.toNat * 2 ^ 24 + x.toNat * 2 ^ 12 + y.toNat) ∧
  ∀ (s : State) (slot : Fin 4) (v : Bool) (x y : BitVec 12),
    ∃ t, exec (.bslot slot v x y) s = .next t ∧ t = { s with frame := t.frame }
      ∧ t.frame.get slot = (if v = true then ⟨true, x, y⟩ else ⟨false, 0, 0⟩)
      ∧ ∀ j : Fin 4, j ≠ slot → t.frame.get j = s.frame.get j

/-- R167, NoTarget: with no valid point TRACK only releases the motors; rotation, speed and memory are unchanged. -/
def Obligations.TrackWithoutTargetOnlyReleases : Prop :=
  ∀ s : State, (∀ i : Fin 4, (s.frame.get i).v = false) →
    exec .track s = .next { s with events := s.events ++ runEvents .release }

/-- R167, SingleTarget: steer to x (ignored beyond X_MAX), half the speed law of TRK_MEM unless NEUTRAL, then the motors
enabled; TRK_MEM, DIR and everything else stay. -/
def Obligations.TrackSingleTargetUsesTheMemory : Prop :=
  ∀ (s : State) (i : Fin 4), s.cfg.closestSep ≤ 4095 → s.cfg.xMax ≤ 4095 →
    (s.frame.get i).v = true → (∀ j : Fin 4, j ≠ i → (s.frame.get j).v = false) →
    ∃ t, exec .track s = .next t
      ∧ t.rotQ.toNat = (if (s.frame.get i).x.toNat ≤ s.cfg.xMax then 200 * (s.frame.get i).x.toNat else s.rotQ.toNat)
      ∧ 2 * t.speedQ.toNat
          = (if s.dir = .neutral then 2 * s.speedQ.toNat else speedFromSeparationQ s.cfg s.trkMem.toNat)
      ∧ t = { s with
          rotQ := t.rotQ
          speedQ := t.speedQ
          events := s.events
            ++ (if (s.frame.get i).x.toNat ≤ s.cfg.xMax then rotationEvents s.cfg t.rotQ.toNat else [])
            ++ (if s.dir = .neutral then [] else speedEvents s.cfg t.speedQ.toNat)
            ++ runEvents (runSignal s.dir) }

/-- R167, DualTarget and AmbiguousMultiTarget, with R168: steer to the midpoint of the pair (ignored beyond X_MAX), the
speed law of its separation unless NEUTRAL, TRK_MEM takes the separation even then, the motors enabled; DIR and
everything else stay. -/
def Obligations.TrackPairSteersAndRemembers : Prop :=
  ∀ (s : State) (a b : Slot) (sep : Nat), s.cfg.closestSep ≤ 4095 → s.cfg.xMax ≤ 4095 →
    TrackedPair s.frame a b → sep = ((a.y.toNat : Int) - b.y.toNat).natAbs →
    ∃ t, exec .track s = .next t
      ∧ t.rotQ.toNat
          = (if a.x.toNat + b.x.toNat ≤ 2 * s.cfg.xMax then 100 * (a.x.toNat + b.x.toNat) else s.rotQ.toNat)
      ∧ t.speedQ.toNat = (if s.dir = .neutral then s.speedQ.toNat else speedFromSeparationQ s.cfg sep)
      ∧ t.trkMem.toNat = sep
      ∧ t = { s with
          rotQ := t.rotQ
          speedQ := t.speedQ
          trkMem := t.trkMem
          events := s.events
            ++ (if a.x.toNat + b.x.toNat ≤ 2 * s.cfg.xMax then rotationEvents s.cfg t.rotQ.toNat else [])
            ++ (if s.dir = .neutral then [] else speedEvents s.cfg t.speedQ.toNat)
            ++ runEvents (runSignal s.dir) }

/-- R165: the three cases of TRACK are all there are: a frame has no valid point, exactly one, or a tracked pair. -/
def Obligations.EveryFrameIsOfOneTrackingState : Prop :=
  ∀ f : Frame,
    (∀ i : Fin 4, (f.get i).v = false)
    ∨ (∃ i : Fin 4, (f.get i).v = true ∧ ∀ j : Fin 4, j ≠ i → (f.get j).v = false)
    ∨ (2 ≤ (validPoints f).length ∧ ∃ a b, TrackedPair f a b)

/-! ### Manual mode (42_manual.md) -/

/-- R200 with R10: a manual cycle is its three steps, each told by the commands whose micro-operations it runs: the
direction keys, the steering keys, then ENABLE with HOLD and DISABLE without; it always completes. -/
def Obligations.ManualRunsItsThreeSteps : Prop :=
  (∀ k : Keys, encode (.manual k) = 0xA0000000 ||| k.bits.setWidth 32) ∧
  ∀ (s : State) (k : Keys), ∃ u v t,
    DriveKeys k s u ∧ SteerKeys k u v
    ∧ exec (if k.hold = true then .enable else .disable) v = .next t
    ∧ exec (.manual k) s = .next t

/-- R201: from NEUTRAL, UP only selects FORWARD and DOWN only BACKWARD; Speed stays and no SPD event is emitted. -/
def Obligations.ManualFromNeutralOnlySelectsDirection : Prop :=
  ∀ (s t : State) (k : Keys), s.dir = .neutral → k.up ≠ k.down → exec (.manual k) s = .next t →
    t.dir = (if k.up = true then .forward else .backward) ∧ t.speedQ = s.speedQ
    ∧ ∃ es, t.events = s.events ++ es ∧ ∀ m v, Event.spd m v ∉ es

/-- R202: zero-crossing reversal. In FORWARD, DOWN decreases and, when Speed is then exactly 0 (also when it was 0
before), flips to BACKWARD; BACKWARD with UP is the mirror; DOWN in BACKWARD and UP in FORWARD increase. The flip emits
nothing of its own. -/
def Obligations.ManualZeroCrossingReverses : Prop :=
  ∀ (s t : State) (k : Keys) (d : Direction), s.cfg.closestSep ≤ 4095 → k.up ≠ k.down →
    s.dir ≠ .neutral → d = (if s.dir = .forward then .backward else .forward) →
    exec (.manual k) s = .next t →
    ((k.down = true ∧ s.dir = .forward ∨ k.up = true ∧ s.dir = .backward) →
      t.speedQ.toNat = s.speedQ.toNat - s.cfg.step * spdDen s.cfg
      ∧ t.dir = (if s.speedQ.toNat ≤ s.cfg.step * spdDen s.cfg then d else s.dir))
    ∧ ((k.up = true ∧ s.dir = .forward ∨ k.down = true ∧ s.dir = .backward) →
      t.speedQ.toNat = min (s.speedQ.toNat + s.cfg.step * spdDen s.cfg) (spdMaxQ s.cfg) ∧ t.dir = s.dir)
    ∧ ∃ es, t.events = s.events ++ speedEvents s.cfg t.speedQ.toNat ++ es ∧ ∀ m v, Event.spd m v ∉ es

/-- R203: LEFT alone lowers Rotation by 1 percent and RIGHT alone raises it by 1 percent, each ignored at its bound. -/
def Obligations.ManualSteersByOnePercent : Prop :=
  ∀ (s t : State) (k : Keys), s.cfg.xMax ≤ 4095 → exec (.manual k) s = .next t →
    (k.left = true → k.right = false →
      t.rotQ.toNat = (if rotDen s.cfg ≤ s.rotQ.toNat then s.rotQ.toNat - rotDen s.cfg else s.rotQ.toNat))
    ∧ (k.right = true → k.left = false →
      t.rotQ.toNat
        = (if s.rotQ.toNat + rotDen s.cfg ≤ rotMaxQ s.cfg then s.rotQ.toNat + rotDen s.cfg else s.rotQ.toNat))
    ∧ (k.left = k.right → t.rotQ = s.rotQ)

/-- R204: the dead-man gate. Every manual cycle ends with exactly two RUN events, the direction left by step 1 with
HOLD and RELEASE without; so without HOLD both motors are released at the drivers. -/
def Obligations.ManualEndsWithTheDeadManGate : Prop :=
  ∀ (s : State) (k : Keys), ∃ t es, exec (.manual k) s = .next t
    ∧ t.events = s.events ++ es ++ runEvents (if k.hold = true then runSignal t.dir else .release)
    ∧ (∀ e ∈ es, isRunEvent e = false)
    ∧ ∀ m, motorRun m t = some (if k.hold = true then runSignal t.dir else .release)

/-- R205 and R207: opposing keys pressed together cancel (with UP and DOWN both set step 1 does nothing, with LEFT and
RIGHT both set step 2 does nothing), and MANUAL ignores EXIT and the two mode keys. -/
def Obligations.ManualOpposingKeysCancelAndOthersAreIgnored : Prop :=
  ∀ (s : State) (k : Keys),
    exec (.manual { k with up := true, down := true }) s = exec (.manual { k with up := false, down := false }) s
    ∧ exec (.manual { k with left := true, right := true }) s
        = exec (.manual { k with left := false, right := false }) s
    ∧ DriveKeys { k with up := true, down := true } s s
    ∧ SteerKeys { k with left := true, right := true } s s
    ∧ ∀ e mm mt : Bool,
        exec (.manual { k with exit := e, modeManual := mm, modeTrack := mt }) s = exec (.manual k) s

/-! ### Supervisor (43_supervisor.md) -/

/-- R230 and R231: NOP does nothing, HALTED or not, and its only word is 0; SETMODE writes MODE and nothing else. -/
def Obligations.NopDoesNothingAndSetmodeWritesMode : Prop :=
  encode .nop = 0x00000000 ∧ (∀ w, decode w = .ok .nop → w = 0x00000000)
  ∧ (∀ s : State, exec .nop s = .next s ∧ discarded .nop s = false)
  ∧ encode (.setmode .manual) = 0xA8000000 ∧ encode (.setmode .track) = 0xA8000001
  ∧ ∀ (s : State) (m : Mode), exec (.setmode m) s = .next { s with mode := m }

/-- R233 with R237: CYCLE with EXIT runs the whole of TURNOFF and sets HALTED, ignoring every other key; both motors are
released within that command. -/
def Obligations.CycleExitIsTheEmergencyStop : Prop :=
  ∀ (s : State) (k : Keys), k.exit = true →
    ∃ u t, exec .turnoff s = .next u ∧ exec (.cycle k) s = .next t
      ∧ t = { u with halted := true }
      ∧ ∀ m, motorRun m t = some .release

/-- R232, R234, R236: without EXIT, the mode keys first set MODE (one alone selects its mode, both or neither leave it),
and then exactly one controller runs, chosen by the MODE that leaves: MANUAL with the same keys, or TRACK. -/
def Obligations.CycleDispatchesToOneController : Prop :=
  ∀ (s : State) (k : Keys) (m : Mode), k.exit = false →
    (k.modeManual = true → k.modeTrack = false → m = .manual) →
    (k.modeTrack = true → k.modeManual = false → m = .track) →
    (k.modeManual = k.modeTrack → m = s.mode) →
    (∃ t, exec (.cycle k) s = .next t ∧ t.mode = m ∧ t.halted = s.halted)
    ∧ (m = .manual → exec (.cycle k) s = exec (.manual k) { s with mode := .manual })
    ∧ (m = .track → exec (.cycle k) s = exec .track { s with mode := .track })

/-! ### The whole machine -/

/-- 10_state.md section 5: the invariants I1 to I4 hold after every step from a state where they hold (the spec marks
that every rule preserves them as derived). Legal parameters are the premise (log 3). -/
def Obligations.EveryStepKeepsTheInvariants : Prop :=
  ∀ s t : State, LegalConfig s → Invariants s → step s = .next t → LegalConfig t ∧ Invariants t

/-- 40_actuator.md section 2 (its last rule, which the spec marks as derived): no event out of the drivers' ranges is
ever emitted. Legal parameters are the premise (log 3). -/
def Obligations.EveryStepKeepsEventsInRange : Prop :=
  ∀ s t : State, LegalConfig s → Invariants s → EventsInRange s → step s = .next t → EventsInRange t

/-- R116 over every step: a stream in which each motor event is motor 1's followed at once by motor 2's stays one, so
the two motors always hold the same speed and the same run signal. -/
def Obligations.EveryStepKeepsTheMotorsPaired : Prop :=
  (∀ s t : State, MotorsPaired s → step s = .next t → MotorsPaired t)
  ∧ ∀ s : State, MotorsPaired s → motorSpeed .m1 s = motorSpeed .m2 s ∧ motorRun .m1 s = motorRun .m2 s

/-- 20_memory.md section 3 ("there is no deferred/batched apply"): after every step the speed the motors were last sent
is the encoding of SPEED_Q, and the steering channel was last sent the tick of ROT_Q or the 0 of a TURNOFF, if anything
was sent at all. Legal parameters are the premise (log 3). -/
def Obligations.EveryStepKeepsTheDriversInAgreement : Prop :=
  ∀ s t : State, LegalConfig s → SpeedIsApplied s → RotationIsApplied s → step s = .next t →
    SpeedIsApplied t ∧ RotationIsApplied t

/-- 10_state.md section 3 with 41_tracking.md section 1: an absent slot holds X = Y = 0 after every step. -/
def Obligations.EveryStepKeepsAbsentSlotsZero : Prop :=
  ∀ s t : State, AbsentSlotsAreZero s → step s = .next t → AbsentSlotsAreZero t

/-- The safe state at State.reset, which stands at the model's parameter values (X_MAX = 1000 and SERVO_CH = 0 are the
model's choice, log 2). -/
def Obligations.ResetIsSafe : Prop :=
  LegalConfig State.reset ∧ Invariants State.reset ∧ EventsInRange State.reset ∧ MotorsPaired State.reset
  ∧ SpeedIsApplied State.reset ∧ RotationIsApplied State.reset ∧ AbsentSlotsAreZero State.reset

/-- R29: ILL is sticky: after a step it is 1 exactly when that step was an illegal word, or it was 1 before and the step
was no reset; after reset it is 0. -/
def Obligations.IllIsSetByIllegalWordsOnly : Prop :=
  (∀ c : Config, (State.resetWith c).ill = false)
  ∧ ∀ s t : State, step s = .next t →
    (t.ill = true ↔
      (∃ w rest, s.inbox = .command w :: rest ∧ IllegalWord w)
      ∨ (s.ill = true ∧ ∀ rest, s.inbox ≠ .reset :: rest))

/-- 10_state.md section 4, HALTED: only a CYCLE with EXIT sets it and only reset clears it. -/
def Obligations.HaltedIsSetByExitAndClearedByReset : Prop :=
  ∀ s t : State, step s = .next t →
    (s.halted = false → t.halted = true →
      ∃ w rest k, s.inbox = .command w :: rest ∧ decode w = .ok (.cycle k) ∧ k.exit = true)
    ∧ (s.halted = true → t.halted = false → ∃ rest, s.inbox = .reset :: rest)

/-- 60_exceptions.md section 3, the stopped state: while HALTED, every step but reset leaves every register as it is but
for ILL, and the DIR and SPEED_Q that a TURNOFF writes; only a TURNOFF emits. -/
def Obligations.HaltedBlockKeepsItsRegisters : Prop :=
  ∀ s t : State, s.halted = true → (∀ rest, s.inbox ≠ .reset :: rest) → step s = .next t →
    t.halted = true ∧ t.rotQ = s.rotQ ∧ t.trkMem = s.trkMem ∧ t.mode = s.mode ∧ t.frame = s.frame
    ∧ ((t.dir = s.dir ∧ t.speedQ = s.speedQ ∧ t.events = s.events)
        ∨ ∃ w rest, s.inbox = .command w :: rest ∧ decode w = .ok .turnoff
            ∧ t.dir = .neutral ∧ t.speedQ = 0)

/-- 10_state.md section 1, the "written by" column, over every command: each register changes only by the commands whose
rules write it; no command changes the parameters, ILL or what stands on the ports. -/
def Obligations.RegistersChangeOnlyByTheirWriters : Prop :=
  ∀ (i : Instr) (s t : State), exec i s = .next t →
    (t.dir ≠ s.dir → (∃ d, i = .setdir d) ∨ i = .turnoff ∨ (∃ k, i = .manual k) ∨ ∃ k, i = .cycle k)
    ∧ (t.rotQ ≠ s.rotQ → (∃ m, i = .rotr m) ∨ (∃ m, i = .rotl m) ∨ (∃ p, i = .snaprot p) ∨ i = .track
        ∨ (∃ k, i = .manual k) ∨ ∃ k, i = .cycle k)
    ∧ (t.speedQ ≠ s.speedQ → i = .setdir .neutral ∨ i = .inc ∨ i = .dec ∨ (∃ p, i = .snapspd p) ∨ i = .turnoff
        ∨ i = .track ∨ (∃ k, i = .manual k) ∨ ∃ k, i = .cycle k)
    ∧ (t.trkMem ≠ s.trkMem → 2 ≤ (validPoints s.frame).length
        ∧ (i = .track ∨ ∃ k, i = .cycle k ∧ k.exit = false ∧ t.mode = .track))
    ∧ (t.mode ≠ s.mode → (∃ m, i = .setmode m) ∨ ∃ k, i = .cycle k ∧ k.exit = false)
    ∧ (t.frame ≠ s.frame → i = .bclr ∨ ∃ slot v x y, i = .bslot slot v x y)
    ∧ (t.halted ≠ s.halted → ∃ k, i = .cycle k ∧ k.exit = true)
    ∧ t.ill = s.ill ∧ t.cfg = s.cfg ∧ t.inbox = s.inbox ∧ t.readData = s.readData

/-- 20_memory.md section 3, the stream: every step but reset only appends to it, and a step that took no command leaves
it as it is. -/
def Obligations.EventsAreOnlyAppended : Prop :=
  ∀ s t : State, step s = .next t → (∀ rest, s.inbox ≠ .reset :: rest) →
    ∃ es, t.events = s.events ++ es ∧ ((∀ w rest, s.inbox ≠ .command w :: rest) → es = [])

/-- 70_reset_and_hazards.md section 3: direction, speed and rotation commands, the frame commands, SETMODE and NOP send
no run signal, so the motors run on as they did; the new direction reaches them at the next ENABLE. -/
def Obligations.DirectionAndSpeedChangesRunNoMotor : Prop :=
  ∀ (i : Instr) (s t : State),
    i ≠ .enable → i ≠ .disable → i ≠ .turnoff → i ≠ .track → (∀ k, i ≠ .manual k) → (∀ k, i ≠ .cycle k) →
    exec i s = .next t →
    (∃ es, t.events = s.events ++ es ∧ ∀ e ∈ es, isRunEvent e = false)
    ∧ (∀ m, motorRun m t = motorRun m s)
    ∧ ∃ u, exec .enable t = .next u ∧ ∀ m, motorRun m u = some (runSignal t.dir)
end

