-- ==== Sys2Proof/Laws/Drivers.lean ====
section
/-! SUPPORT. How the drivers' view of a stream grows with the stream (Machine/Drivers.lean). -/

namespace Sys2Proof.Machine

@[simp] theorem lastOf_nil {α : Type} (pick : Event → Option α) : lastOf pick [] = none := rfl

/-- What a driver holds after more events depends on the earlier ones only through what it held. -/
theorem lastOf_append {α : Type} (pick : Event → Option α) (es more : List Event) :
    lastOf pick (es ++ more) = more.foldl (latest pick) (lastOf pick es) := by
  simp [lastOf]

/-- Events that bring a driver nothing leave what it holds. -/
theorem foldl_latest_of_none {α : Type} (pick : Event → Option α) (known : Option α) (es : List Event)
    (h : ∀ e ∈ es, pick e = none) : es.foldl (latest pick) known = known := by
  induction es generalizing known with
  | nil => rfl
  | cons e es ih =>
    have he : latest pick known e = known := by simp [latest, h e (by simp)]
    rw [List.foldl_cons, he]
    exact ih known (fun e' h' => h e' (by simp [h']))

end Sys2Proof.Machine
end

