-- ==== Sys2Proof/Laws/Encoding.lean ====
section
/-! SUPPORT. The fields, the formats and the transport order as numbers (30_encoding.md R81, 20_memory.md R64), so that
proofs about words are arithmetic. -/

namespace Sys2Proof

/-- A concatenation as a number: the first part is the more significant (00_scope.md R7). -/
theorem append_toNat {h l : Nat} (a : BitVec h) (b : BitVec l) : (a ++ b).toNat = a.toNat * 2 ^ l + b.toNat := by
  rw [BitVec.toNat_append, ← Nat.shiftLeft_add_eq_or_of_lt b.isLt, Nat.shiftLeft_eq]

/-- The low bits of a word below a field of zeros do not reach a mask that is 0 there. -/
theorem append_and_high {h l : Nat} (a : BitVec h) (b : BitVec l) :
    (a ++ b) &&& (BitVec.allOnes h ++ (0 : BitVec l)) = a ++ (0 : BitVec l) := by
  simp [BitVec.and_append]

/-- A field as a number: the bits from `lo` up, `len` of them. -/
theorem field_toNat (w : Word) (lo len : Nat) : (field w lo len).toNat = w.toNat / 2 ^ lo % 2 ^ len := by
  simp [field, Nat.shiftRight_eq_div_pow]

/-- The opcode as a number. -/
theorem opcode_toNat (w : Word) : (opcode w).toNat = w.toNat / 2 ^ 27 := by
  have := w.isLt
  rw [opcode, field_toNat]
  omega

theorem directionOfCode_code (d : Direction) : directionOfCode d.code = some d := by cases d <;> decide

theorem modeOfCode_code (m : Mode) : modeOfCode m.code = m := by cases m <;> decide

theorem keysOfBits_bits (k : Keys) : keysOfBits k.bits = k := by
  obtain ⟨a, b, c, d, e, f, g, h⟩ := k
  cases a <;> cases b <;> cases c <;> cases d <;> cases e <;> cases f <;> cases g <;> cases h <;> decide

theorem encodeN_toNat (op : BitVec 5) : (encodeN op).toNat = op.toNat * 2 ^ 27 := by
  show @BitVec.toNat (5 + 27) (op ++ (0 : BitVec 27)) = _
  rw [append_toNat, show (0 : BitVec 27).toNat = 0 from rfl]
  omega

theorem encodeD_toNat (op : BitVec 5) (d : Direction) :
    (encodeD op d).toNat = op.toNat * 2 ^ 27 + d.code.toNat := by
  show @BitVec.toNat (5 + 25 + 2) (op ++ (0 : BitVec 25) ++ d.code) = _
  rw [append_toNat, append_toNat, show (0 : BitVec 25).toNat = 0 from rfl]
  omega

theorem encodeS_toNat (op : BitVec 5) (p : Int) :
    (encodeS op p).toNat = op.toNat * 2 ^ 27 + (BitVec.ofInt 16 p).toNat := by
  show @BitVec.toNat (5 + 11 + 16) (op ++ (0 : BitVec 11) ++ BitVec.ofInt 16 p) = _
  rw [append_toNat, append_toNat, show (0 : BitVec 11).toNat = 0 from rfl]
  omega

theorem encodeU_toNat (op : BitVec 5) (m : Nat) : (encodeU op m).toNat = op.toNat * 2 ^ 27 + m % 2 ^ 16 := by
  show @BitVec.toNat (5 + 11 + 16) (op ++ (0 : BitVec 11) ++ BitVec.ofNat 16 m) = _
  rw [append_toNat, append_toNat, show (0 : BitVec 11).toNat = 0 from rfl, BitVec.toNat_ofNat]
  omega

theorem encodeB_toNat (op : BitVec 5) (slot : Fin 4) (v : Bool) (x y : BitVec 12) :
    (encodeB op slot v x y).toNat
      = op.toNat * 2 ^ 27 + slot.val * 2 ^ 25 + v.toNat * 2 ^ 24 + x.toNat * 2 ^ 12 + y.toNat := by
  show @BitVec.toNat (5 + 2 + 1 + 12 + 12) (op ++ (BitVec.ofFin slot : BitVec 2) ++ BitVec.ofBool v ++ x ++ y) = _
  rw [append_toNat, append_toNat, append_toNat, append_toNat]
  simp
  omega

theorem encodeK_toNat (op : BitVec 5) (k : Keys) : (encodeK op k).toNat = op.toNat * 2 ^ 27 + k.bits.toNat := by
  show @BitVec.toNat (5 + 19 + 8) (op ++ (0 : BitVec 19) ++ k.bits) = _
  rw [append_toNat, append_toNat, show (0 : BitVec 19).toNat = 0 from rfl]
  omega

theorem encodeM_toNat (op : BitVec 5) (m : Mode) : (encodeM op m).toNat = op.toNat * 2 ^ 27 + m.code.toNat := by
  show @BitVec.toNat (5 + 26 + 1) (op ++ (0 : BitVec 26) ++ m.code) = _
  rw [append_toNat, append_toNat, show (0 : BitVec 26).toNat = 0 from rfl]
  omega

theorem wordOfBytes_toNat (b0 b1 b2 b3 : Byte) :
    (wordOfBytes b0 b1 b2 b3).toNat = b3.toNat * 2 ^ 24 + b2.toNat * 2 ^ 16 + b1.toNat * 2 ^ 8 + b0.toNat := by
  show @BitVec.toNat (8 + 8 + 8 + 8) (b3 ++ b2 ++ b1 ++ b0) = _
  rw [append_toNat, append_toNat, append_toNat]
  omega

end Sys2Proof
end

