-- ==== Sys2Proof/Laws/State.lean ====
section
/-! SUPPORT. One lemma per field per named update of the state (Machine/Ops.lean, Machine/Flags.lean), each true by
`rfl`, so that no later proof unfolds a record update. -/

namespace Sys2Proof.Machine

/-! ### `setDir` -/

@[simp] theorem setDir_cfg (d : Direction) (s : State) : (setDir d s).cfg = s.cfg := rfl
@[simp] theorem setDir_dir (d : Direction) (s : State) : (setDir d s).dir = d := rfl
@[simp] theorem setDir_speedQ (d : Direction) (s : State) : (setDir d s).speedQ = s.speedQ := rfl
@[simp] theorem setDir_rotQ (d : Direction) (s : State) : (setDir d s).rotQ = s.rotQ := rfl
@[simp] theorem setDir_trkMem (d : Direction) (s : State) : (setDir d s).trkMem = s.trkMem := rfl
@[simp] theorem setDir_mode (d : Direction) (s : State) : (setDir d s).mode = s.mode := rfl
@[simp] theorem setDir_frame (d : Direction) (s : State) : (setDir d s).frame = s.frame := rfl
@[simp] theorem setDir_halted (d : Direction) (s : State) : (setDir d s).halted = s.halted := rfl
@[simp] theorem setDir_ill (d : Direction) (s : State) : (setDir d s).ill = s.ill := rfl
@[simp] theorem setDir_events (d : Direction) (s : State) : (setDir d s).events = s.events := rfl
@[simp] theorem setDir_inbox (d : Direction) (s : State) : (setDir d s).inbox = s.inbox := rfl
@[simp] theorem setDir_readData (d : Direction) (s : State) : (setDir d s).readData = s.readData := rfl

/-! ### `setSpeedQ` -/

@[simp] theorem setSpeedQ_cfg (q : Nat) (s : State) : (setSpeedQ q s).cfg = s.cfg := rfl
@[simp] theorem setSpeedQ_dir (q : Nat) (s : State) : (setSpeedQ q s).dir = s.dir := rfl
@[simp] theorem setSpeedQ_speedQ (q : Nat) (s : State) : (setSpeedQ q s).speedQ = BitVec.ofNat 20 q := rfl
@[simp] theorem setSpeedQ_rotQ (q : Nat) (s : State) : (setSpeedQ q s).rotQ = s.rotQ := rfl
@[simp] theorem setSpeedQ_trkMem (q : Nat) (s : State) : (setSpeedQ q s).trkMem = s.trkMem := rfl
@[simp] theorem setSpeedQ_mode (q : Nat) (s : State) : (setSpeedQ q s).mode = s.mode := rfl
@[simp] theorem setSpeedQ_frame (q : Nat) (s : State) : (setSpeedQ q s).frame = s.frame := rfl
@[simp] theorem setSpeedQ_halted (q : Nat) (s : State) : (setSpeedQ q s).halted = s.halted := rfl
@[simp] theorem setSpeedQ_ill (q : Nat) (s : State) : (setSpeedQ q s).ill = s.ill := rfl
@[simp] theorem setSpeedQ_events (q : Nat) (s : State) : (setSpeedQ q s).events = s.events := rfl
@[simp] theorem setSpeedQ_inbox (q : Nat) (s : State) : (setSpeedQ q s).inbox = s.inbox := rfl
@[simp] theorem setSpeedQ_readData (q : Nat) (s : State) : (setSpeedQ q s).readData = s.readData := rfl

/-! ### `setRotQ` -/

@[simp] theorem setRotQ_cfg (q : Nat) (s : State) : (setRotQ q s).cfg = s.cfg := rfl
@[simp] theorem setRotQ_dir (q : Nat) (s : State) : (setRotQ q s).dir = s.dir := rfl
@[simp] theorem setRotQ_speedQ (q : Nat) (s : State) : (setRotQ q s).speedQ = s.speedQ := rfl
@[simp] theorem setRotQ_rotQ (q : Nat) (s : State) : (setRotQ q s).rotQ = BitVec.ofNat 20 q := rfl
@[simp] theorem setRotQ_trkMem (q : Nat) (s : State) : (setRotQ q s).trkMem = s.trkMem := rfl
@[simp] theorem setRotQ_mode (q : Nat) (s : State) : (setRotQ q s).mode = s.mode := rfl
@[simp] theorem setRotQ_frame (q : Nat) (s : State) : (setRotQ q s).frame = s.frame := rfl
@[simp] theorem setRotQ_halted (q : Nat) (s : State) : (setRotQ q s).halted = s.halted := rfl
@[simp] theorem setRotQ_ill (q : Nat) (s : State) : (setRotQ q s).ill = s.ill := rfl
@[simp] theorem setRotQ_events (q : Nat) (s : State) : (setRotQ q s).events = s.events := rfl
@[simp] theorem setRotQ_inbox (q : Nat) (s : State) : (setRotQ q s).inbox = s.inbox := rfl
@[simp] theorem setRotQ_readData (q : Nat) (s : State) : (setRotQ q s).readData = s.readData := rfl

/-! ### `setTrkMem` -/

@[simp] theorem setTrkMem_cfg (sep : Nat) (s : State) : (setTrkMem sep s).cfg = s.cfg := rfl
@[simp] theorem setTrkMem_dir (sep : Nat) (s : State) : (setTrkMem sep s).dir = s.dir := rfl
@[simp] theorem setTrkMem_speedQ (sep : Nat) (s : State) : (setTrkMem sep s).speedQ = s.speedQ := rfl
@[simp] theorem setTrkMem_rotQ (sep : Nat) (s : State) : (setTrkMem sep s).rotQ = s.rotQ := rfl
@[simp] theorem setTrkMem_trkMem (sep : Nat) (s : State) : (setTrkMem sep s).trkMem = BitVec.ofNat 12 sep := rfl
@[simp] theorem setTrkMem_mode (sep : Nat) (s : State) : (setTrkMem sep s).mode = s.mode := rfl
@[simp] theorem setTrkMem_frame (sep : Nat) (s : State) : (setTrkMem sep s).frame = s.frame := rfl
@[simp] theorem setTrkMem_halted (sep : Nat) (s : State) : (setTrkMem sep s).halted = s.halted := rfl
@[simp] theorem setTrkMem_ill (sep : Nat) (s : State) : (setTrkMem sep s).ill = s.ill := rfl
@[simp] theorem setTrkMem_events (sep : Nat) (s : State) : (setTrkMem sep s).events = s.events := rfl
@[simp] theorem setTrkMem_inbox (sep : Nat) (s : State) : (setTrkMem sep s).inbox = s.inbox := rfl
@[simp] theorem setTrkMem_readData (sep : Nat) (s : State) : (setTrkMem sep s).readData = s.readData := rfl

/-! ### `setMode` -/

@[simp] theorem setMode_cfg (m : Mode) (s : State) : (setMode m s).cfg = s.cfg := rfl
@[simp] theorem setMode_dir (m : Mode) (s : State) : (setMode m s).dir = s.dir := rfl
@[simp] theorem setMode_speedQ (m : Mode) (s : State) : (setMode m s).speedQ = s.speedQ := rfl
@[simp] theorem setMode_rotQ (m : Mode) (s : State) : (setMode m s).rotQ = s.rotQ := rfl
@[simp] theorem setMode_trkMem (m : Mode) (s : State) : (setMode m s).trkMem = s.trkMem := rfl
@[simp] theorem setMode_mode (m : Mode) (s : State) : (setMode m s).mode = m := rfl
@[simp] theorem setMode_frame (m : Mode) (s : State) : (setMode m s).frame = s.frame := rfl
@[simp] theorem setMode_halted (m : Mode) (s : State) : (setMode m s).halted = s.halted := rfl
@[simp] theorem setMode_ill (m : Mode) (s : State) : (setMode m s).ill = s.ill := rfl
@[simp] theorem setMode_events (m : Mode) (s : State) : (setMode m s).events = s.events := rfl
@[simp] theorem setMode_inbox (m : Mode) (s : State) : (setMode m s).inbox = s.inbox := rfl
@[simp] theorem setMode_readData (m : Mode) (s : State) : (setMode m s).readData = s.readData := rfl

/-! ### `setFrame` -/

@[simp] theorem setFrame_cfg (f : Frame) (s : State) : (setFrame f s).cfg = s.cfg := rfl
@[simp] theorem setFrame_dir (f : Frame) (s : State) : (setFrame f s).dir = s.dir := rfl
@[simp] theorem setFrame_speedQ (f : Frame) (s : State) : (setFrame f s).speedQ = s.speedQ := rfl
@[simp] theorem setFrame_rotQ (f : Frame) (s : State) : (setFrame f s).rotQ = s.rotQ := rfl
@[simp] theorem setFrame_trkMem (f : Frame) (s : State) : (setFrame f s).trkMem = s.trkMem := rfl
@[simp] theorem setFrame_mode (f : Frame) (s : State) : (setFrame f s).mode = s.mode := rfl
@[simp] theorem setFrame_frame (f : Frame) (s : State) : (setFrame f s).frame = f := rfl
@[simp] theorem setFrame_halted (f : Frame) (s : State) : (setFrame f s).halted = s.halted := rfl
@[simp] theorem setFrame_ill (f : Frame) (s : State) : (setFrame f s).ill = s.ill := rfl
@[simp] theorem setFrame_events (f : Frame) (s : State) : (setFrame f s).events = s.events := rfl
@[simp] theorem setFrame_inbox (f : Frame) (s : State) : (setFrame f s).inbox = s.inbox := rfl
@[simp] theorem setFrame_readData (f : Frame) (s : State) : (setFrame f s).readData = s.readData := rfl

/-! ### `setHalted` -/

@[simp] theorem setHalted_cfg (s : State) : (setHalted s).cfg = s.cfg := rfl
@[simp] theorem setHalted_dir (s : State) : (setHalted s).dir = s.dir := rfl
@[simp] theorem setHalted_speedQ (s : State) : (setHalted s).speedQ = s.speedQ := rfl
@[simp] theorem setHalted_rotQ (s : State) : (setHalted s).rotQ = s.rotQ := rfl
@[simp] theorem setHalted_trkMem (s : State) : (setHalted s).trkMem = s.trkMem := rfl
@[simp] theorem setHalted_mode (s : State) : (setHalted s).mode = s.mode := rfl
@[simp] theorem setHalted_frame (s : State) : (setHalted s).frame = s.frame := rfl
@[simp] theorem setHalted_halted (s : State) : (setHalted s).halted = true := rfl
@[simp] theorem setHalted_ill (s : State) : (setHalted s).ill = s.ill := rfl
@[simp] theorem setHalted_events (s : State) : (setHalted s).events = s.events := rfl
@[simp] theorem setHalted_inbox (s : State) : (setHalted s).inbox = s.inbox := rfl
@[simp] theorem setHalted_readData (s : State) : (setHalted s).readData = s.readData := rfl

/-! ### `raiseIll` -/

@[simp] theorem raiseIll_cfg (s : State) : (raiseIll s).cfg = s.cfg := rfl
@[simp] theorem raiseIll_dir (s : State) : (raiseIll s).dir = s.dir := rfl
@[simp] theorem raiseIll_speedQ (s : State) : (raiseIll s).speedQ = s.speedQ := rfl
@[simp] theorem raiseIll_rotQ (s : State) : (raiseIll s).rotQ = s.rotQ := rfl
@[simp] theorem raiseIll_trkMem (s : State) : (raiseIll s).trkMem = s.trkMem := rfl
@[simp] theorem raiseIll_mode (s : State) : (raiseIll s).mode = s.mode := rfl
@[simp] theorem raiseIll_frame (s : State) : (raiseIll s).frame = s.frame := rfl
@[simp] theorem raiseIll_halted (s : State) : (raiseIll s).halted = s.halted := rfl
@[simp] theorem raiseIll_ill (s : State) : (raiseIll s).ill = true := rfl
@[simp] theorem raiseIll_events (s : State) : (raiseIll s).events = s.events := rfl
@[simp] theorem raiseIll_inbox (s : State) : (raiseIll s).inbox = s.inbox := rfl
@[simp] theorem raiseIll_readData (s : State) : (raiseIll s).readData = s.readData := rfl

/-! ### `setInbox` -/

@[simp] theorem setInbox_cfg (l : List HostInput) (s : State) : (setInbox l s).cfg = s.cfg := rfl
@[simp] theorem setInbox_dir (l : List HostInput) (s : State) : (setInbox l s).dir = s.dir := rfl
@[simp] theorem setInbox_speedQ (l : List HostInput) (s : State) : (setInbox l s).speedQ = s.speedQ := rfl
@[simp] theorem setInbox_rotQ (l : List HostInput) (s : State) : (setInbox l s).rotQ = s.rotQ := rfl
@[simp] theorem setInbox_trkMem (l : List HostInput) (s : State) : (setInbox l s).trkMem = s.trkMem := rfl
@[simp] theorem setInbox_mode (l : List HostInput) (s : State) : (setInbox l s).mode = s.mode := rfl
@[simp] theorem setInbox_frame (l : List HostInput) (s : State) : (setInbox l s).frame = s.frame := rfl
@[simp] theorem setInbox_halted (l : List HostInput) (s : State) : (setInbox l s).halted = s.halted := rfl
@[simp] theorem setInbox_ill (l : List HostInput) (s : State) : (setInbox l s).ill = s.ill := rfl
@[simp] theorem setInbox_events (l : List HostInput) (s : State) : (setInbox l s).events = s.events := rfl
@[simp] theorem setInbox_inbox (l : List HostInput) (s : State) : (setInbox l s).inbox = l := rfl
@[simp] theorem setInbox_readData (l : List HostInput) (s : State) : (setInbox l s).readData = s.readData := rfl

/-! ### `pushReadData` -/

@[simp] theorem pushReadData_cfg (d : Word) (s : State) : (pushReadData d s).cfg = s.cfg := rfl
@[simp] theorem pushReadData_dir (d : Word) (s : State) : (pushReadData d s).dir = s.dir := rfl
@[simp] theorem pushReadData_speedQ (d : Word) (s : State) : (pushReadData d s).speedQ = s.speedQ := rfl
@[simp] theorem pushReadData_rotQ (d : Word) (s : State) : (pushReadData d s).rotQ = s.rotQ := rfl
@[simp] theorem pushReadData_trkMem (d : Word) (s : State) : (pushReadData d s).trkMem = s.trkMem := rfl
@[simp] theorem pushReadData_mode (d : Word) (s : State) : (pushReadData d s).mode = s.mode := rfl
@[simp] theorem pushReadData_frame (d : Word) (s : State) : (pushReadData d s).frame = s.frame := rfl
@[simp] theorem pushReadData_halted (d : Word) (s : State) : (pushReadData d s).halted = s.halted := rfl
@[simp] theorem pushReadData_ill (d : Word) (s : State) : (pushReadData d s).ill = s.ill := rfl
@[simp] theorem pushReadData_events (d : Word) (s : State) : (pushReadData d s).events = s.events := rfl
@[simp] theorem pushReadData_inbox (d : Word) (s : State) : (pushReadData d s).inbox = s.inbox := rfl
@[simp] theorem pushReadData_readData (d : Word) (s : State) : (pushReadData d s).readData = s.readData ++ [d] := rfl

/-! ### `emit` -/

@[simp] theorem emit_cfg (e : Event) (s : State) : (emit e s).cfg = s.cfg := rfl
@[simp] theorem emit_dir (e : Event) (s : State) : (emit e s).dir = s.dir := rfl
@[simp] theorem emit_speedQ (e : Event) (s : State) : (emit e s).speedQ = s.speedQ := rfl
@[simp] theorem emit_rotQ (e : Event) (s : State) : (emit e s).rotQ = s.rotQ := rfl
@[simp] theorem emit_trkMem (e : Event) (s : State) : (emit e s).trkMem = s.trkMem := rfl
@[simp] theorem emit_mode (e : Event) (s : State) : (emit e s).mode = s.mode := rfl
@[simp] theorem emit_frame (e : Event) (s : State) : (emit e s).frame = s.frame := rfl
@[simp] theorem emit_halted (e : Event) (s : State) : (emit e s).halted = s.halted := rfl
@[simp] theorem emit_ill (e : Event) (s : State) : (emit e s).ill = s.ill := rfl
@[simp] theorem emit_events (e : Event) (s : State) : (emit e s).events = s.events ++ [e] := rfl
@[simp] theorem emit_inbox (e : Event) (s : State) : (emit e s).inbox = s.inbox := rfl
@[simp] theorem emit_readData (e : Event) (s : State) : (emit e s).readData = s.readData := rfl

/-! ### `emitBoth` -/

@[simp] theorem emitBoth_cfg (e : Motor → Event) (s : State) : (emitBoth e s).cfg = s.cfg := rfl
@[simp] theorem emitBoth_dir (e : Motor → Event) (s : State) : (emitBoth e s).dir = s.dir := rfl
@[simp] theorem emitBoth_speedQ (e : Motor → Event) (s : State) : (emitBoth e s).speedQ = s.speedQ := rfl
@[simp] theorem emitBoth_rotQ (e : Motor → Event) (s : State) : (emitBoth e s).rotQ = s.rotQ := rfl
@[simp] theorem emitBoth_trkMem (e : Motor → Event) (s : State) : (emitBoth e s).trkMem = s.trkMem := rfl
@[simp] theorem emitBoth_mode (e : Motor → Event) (s : State) : (emitBoth e s).mode = s.mode := rfl
@[simp] theorem emitBoth_frame (e : Motor → Event) (s : State) : (emitBoth e s).frame = s.frame := rfl
@[simp] theorem emitBoth_halted (e : Motor → Event) (s : State) : (emitBoth e s).halted = s.halted := rfl
@[simp] theorem emitBoth_ill (e : Motor → Event) (s : State) : (emitBoth e s).ill = s.ill := rfl
@[simp] theorem emitBoth_events (e : Motor → Event) (s : State) : (emitBoth e s).events = (s.events ++ [e .m1]) ++ [e .m2] := rfl
@[simp] theorem emitBoth_inbox (e : Motor → Event) (s : State) : (emitBoth e s).inbox = s.inbox := rfl
@[simp] theorem emitBoth_readData (e : Motor → Event) (s : State) : (emitBoth e s).readData = s.readData := rfl

/-! ### `emitRun` -/

@[simp] theorem emitRun_cfg (sig : RunSignal) (s : State) : (emitRun sig s).cfg = s.cfg := rfl
@[simp] theorem emitRun_dir (sig : RunSignal) (s : State) : (emitRun sig s).dir = s.dir := rfl
@[simp] theorem emitRun_speedQ (sig : RunSignal) (s : State) : (emitRun sig s).speedQ = s.speedQ := rfl
@[simp] theorem emitRun_rotQ (sig : RunSignal) (s : State) : (emitRun sig s).rotQ = s.rotQ := rfl
@[simp] theorem emitRun_trkMem (sig : RunSignal) (s : State) : (emitRun sig s).trkMem = s.trkMem := rfl
@[simp] theorem emitRun_mode (sig : RunSignal) (s : State) : (emitRun sig s).mode = s.mode := rfl
@[simp] theorem emitRun_frame (sig : RunSignal) (s : State) : (emitRun sig s).frame = s.frame := rfl
@[simp] theorem emitRun_halted (sig : RunSignal) (s : State) : (emitRun sig s).halted = s.halted := rfl
@[simp] theorem emitRun_ill (sig : RunSignal) (s : State) : (emitRun sig s).ill = s.ill := rfl
@[simp] theorem emitRun_events (sig : RunSignal) (s : State) : (emitRun sig s).events = (s.events ++ [.run .m1 sig]) ++ [.run .m2 sig] := rfl
@[simp] theorem emitRun_inbox (sig : RunSignal) (s : State) : (emitRun sig s).inbox = s.inbox := rfl
@[simp] theorem emitRun_readData (sig : RunSignal) (s : State) : (emitRun sig s).readData = s.readData := rfl

/-! ### `emitAll` -/

@[simp] theorem emitAll_cfg (es : List Event) (s : State) : (emitAll es s).cfg = s.cfg := rfl
@[simp] theorem emitAll_dir (es : List Event) (s : State) : (emitAll es s).dir = s.dir := rfl
@[simp] theorem emitAll_speedQ (es : List Event) (s : State) : (emitAll es s).speedQ = s.speedQ := rfl
@[simp] theorem emitAll_rotQ (es : List Event) (s : State) : (emitAll es s).rotQ = s.rotQ := rfl
@[simp] theorem emitAll_trkMem (es : List Event) (s : State) : (emitAll es s).trkMem = s.trkMem := rfl
@[simp] theorem emitAll_mode (es : List Event) (s : State) : (emitAll es s).mode = s.mode := rfl
@[simp] theorem emitAll_frame (es : List Event) (s : State) : (emitAll es s).frame = s.frame := rfl
@[simp] theorem emitAll_halted (es : List Event) (s : State) : (emitAll es s).halted = s.halted := rfl
@[simp] theorem emitAll_ill (es : List Event) (s : State) : (emitAll es s).ill = s.ill := rfl
@[simp] theorem emitAll_events (es : List Event) (s : State) : (emitAll es s).events = s.events ++ es := rfl
@[simp] theorem emitAll_inbox (es : List Event) (s : State) : (emitAll es s).inbox = s.inbox := rfl
@[simp] theorem emitAll_readData (es : List Event) (s : State) : (emitAll es s).readData = s.readData := rfl

/-! ### `writeSpeed` -/

@[simp] theorem writeSpeed_cfg (q : Nat) (s : State) : (writeSpeed q s).cfg = s.cfg := rfl
@[simp] theorem writeSpeed_dir (q : Nat) (s : State) : (writeSpeed q s).dir = s.dir := rfl
@[simp] theorem writeSpeed_speedQ (q : Nat) (s : State) : (writeSpeed q s).speedQ = BitVec.ofNat 20 q := rfl
@[simp] theorem writeSpeed_rotQ (q : Nat) (s : State) : (writeSpeed q s).rotQ = s.rotQ := rfl
@[simp] theorem writeSpeed_trkMem (q : Nat) (s : State) : (writeSpeed q s).trkMem = s.trkMem := rfl
@[simp] theorem writeSpeed_mode (q : Nat) (s : State) : (writeSpeed q s).mode = s.mode := rfl
@[simp] theorem writeSpeed_frame (q : Nat) (s : State) : (writeSpeed q s).frame = s.frame := rfl
@[simp] theorem writeSpeed_halted (q : Nat) (s : State) : (writeSpeed q s).halted = s.halted := rfl
@[simp] theorem writeSpeed_ill (q : Nat) (s : State) : (writeSpeed q s).ill = s.ill := rfl
@[simp] theorem writeSpeed_events (q : Nat) (s : State) : (writeSpeed q s).events = (s.events ++ [.spd .m1 (spdByte s.cfg q)]) ++ [.spd .m2 (spdByte s.cfg q)] := rfl
@[simp] theorem writeSpeed_inbox (q : Nat) (s : State) : (writeSpeed q s).inbox = s.inbox := rfl
@[simp] theorem writeSpeed_readData (q : Nat) (s : State) : (writeSpeed q s).readData = s.readData := rfl

/-! ### `writeRot` -/

@[simp] theorem writeRot_cfg (q : Nat) (s : State) : (writeRot q s).cfg = s.cfg := rfl
@[simp] theorem writeRot_dir (q : Nat) (s : State) : (writeRot q s).dir = s.dir := rfl
@[simp] theorem writeRot_speedQ (q : Nat) (s : State) : (writeRot q s).speedQ = s.speedQ := rfl
@[simp] theorem writeRot_rotQ (q : Nat) (s : State) : (writeRot q s).rotQ = BitVec.ofNat 20 q := rfl
@[simp] theorem writeRot_trkMem (q : Nat) (s : State) : (writeRot q s).trkMem = s.trkMem := rfl
@[simp] theorem writeRot_mode (q : Nat) (s : State) : (writeRot q s).mode = s.mode := rfl
@[simp] theorem writeRot_frame (q : Nat) (s : State) : (writeRot q s).frame = s.frame := rfl
@[simp] theorem writeRot_halted (q : Nat) (s : State) : (writeRot q s).halted = s.halted := rfl
@[simp] theorem writeRot_ill (q : Nat) (s : State) : (writeRot q s).ill = s.ill := rfl
@[simp] theorem writeRot_events (q : Nat) (s : State) : (writeRot q s).events = s.events ++ [.pwm s.cfg.servoCh 0 (servoTick s.cfg q)] := rfl
@[simp] theorem writeRot_inbox (q : Nat) (s : State) : (writeRot q s).inbox = s.inbox := rfl
@[simp] theorem writeRot_readData (q : Nat) (s : State) : (writeRot q s).readData = s.readData := rfl

end Sys2Proof.Machine
end

