-- ==== Sys2Proof/Laws/Ops.lean ====
section
/-! SUPPORT. For each micro-operation of 40_actuator.md, once: every outcome it can have (`_cases`, `_eq`), and the
fields it never writes. -/

namespace Sys2Proof.Machine

/-! ### Outcomes -/

/-- The two speed events and the register of a speed write (R113). -/
theorem writeSpeed_eq (q : Nat) (s : State) :
    writeSpeed q s = { s with
      speedQ := BitVec.ofNat 20 q
      events := s.events ++ [.spd .m1 (spdByte s.cfg q), .spd .m2 (spdByte s.cfg q)] } := by
  simp [writeSpeed, emitBoth, emit, setSpeedQ]

/-- The event and the register of a rotation write (R114). -/
theorem writeRot_eq (q : Nat) (s : State) :
    writeRot q s = { s with
      rotQ := BitVec.ofNat 20 q
      events := s.events ++ [.pwm s.cfg.servoCh 0 (servoTick s.cfg q)] } := rfl

/-- The two run events of both motors (R116). -/
theorem emitRun_eq (sig : RunSignal) (s : State) :
    emitRun sig s = { s with events := s.events ++ [.run .m1 sig, .run .m2 sig] } := by
  simp [emitRun, emitBoth, emit]

/-- NEUTRAL writes Speed 0; the other directions write DIR alone (R120). -/
theorem setDirection_cases (d : Direction) (s : State) :
    (d = .neutral ∧ setDirection d s = writeSpeed 0 (setDir .neutral s))
      ∨ (d ≠ .neutral ∧ setDirection d s = setDir d s) := by
  by_cases h : d = .neutral
  · exact .inl ⟨h, by simp [setDirection, h]⟩
  · exact .inr ⟨h, by simp [setDirection, h]⟩

/-- A ramp up is a no-op while NEUTRAL and else one speed write (R121). -/
theorem increaseSpeed_cases (s : State) :
    (s.dir = .neutral ∧ increaseSpeed s = s)
      ∨ (s.dir ≠ .neutral ∧ increaseSpeed s
          = writeSpeed (min (s.speedQ.toNat + s.cfg.step * spdDen s.cfg) (spdMaxQ s.cfg)) s) := by
  by_cases h : s.dir = .neutral
  · exact .inl ⟨h, by simp [increaseSpeed, h]⟩
  · exact .inr ⟨h, by simp [increaseSpeed, h]⟩

/-- A ramp down is a no-op while NEUTRAL and else one speed write (R122). -/
theorem decreaseSpeed_cases (s : State) :
    (s.dir = .neutral ∧ decreaseSpeed s = s)
      ∨ (s.dir ≠ .neutral ∧ decreaseSpeed s
          = writeSpeed (s.speedQ.toNat - s.cfg.step * spdDen s.cfg) s) := by
  by_cases h : s.dir = .neutral
  · exact .inl ⟨h, by simp [decreaseSpeed, h]⟩
  · exact .inr ⟨h, by simp [decreaseSpeed, h]⟩

/-- A speed snap is ignored, or writes a value in range (R123). -/
theorem snapSpeedQ_cases (q : Int) (s : State) :
    ((s.dir = .neutral ∨ q < 0 ∨ q > (spdMaxQ s.cfg : Int)) ∧ snapSpeedQ q s = s)
      ∨ (s.dir ≠ .neutral ∧ 0 ≤ q ∧ q.toNat ≤ spdMaxQ s.cfg ∧ snapSpeedQ q s = writeSpeed q.toNat s) := by
  by_cases h : s.dir = .neutral
  · exact .inl ⟨.inl h, by simp [snapSpeedQ, h]⟩
  · by_cases hq : q < 0 ∨ q > (spdMaxQ s.cfg : Int)
    · exact .inl ⟨.inr hq, by simp [snapSpeedQ, h, hq]⟩
    · exact .inr ⟨h, by omega, by omega, by simp [snapSpeedQ, h, hq]⟩

/-- A rotation snap is ignored, or writes a value in range (R127). -/
theorem snapRotateQ_cases (q : Int) (s : State) :
    ((q < 0 ∨ q > (rotMaxQ s.cfg : Int)) ∧ snapRotateQ q s = s)
      ∨ (0 ≤ q ∧ q.toNat ≤ rotMaxQ s.cfg ∧ snapRotateQ q s = writeRot q.toNat s) := by
  by_cases hq : q < 0 ∨ q > (rotMaxQ s.cfg : Int)
  · exact .inl ⟨hq, by simp [snapRotateQ, hq]⟩
  · exact .inr ⟨by omega, by omega, by simp [snapRotateQ, hq]⟩

/-- A move to the right is ignored, or writes a smaller value (R125). -/
theorem rotateRight_cases (m : Nat) (s : State) :
    (s.rotQ.toNat < effMagnitude m * rotDen s.cfg ∧ rotateRight m s = s)
      ∨ (effMagnitude m * rotDen s.cfg ≤ s.rotQ.toNat
          ∧ rotateRight m s = writeRot (s.rotQ.toNat - effMagnitude m * rotDen s.cfg) s) := by
  by_cases h : s.rotQ.toNat < effMagnitude m * rotDen s.cfg
  · exact .inl ⟨h, by unfold rotateRight; dsimp only; rw [if_pos (by omega)]⟩
  · refine .inr ⟨by omega, ?_⟩
    unfold rotateRight
    dsimp only
    rw [if_neg (by omega)]
    congr 1
    omega

/-- A move to the left is ignored, or writes a value in range (R126). -/
theorem rotateLeft_cases (m : Nat) (s : State) :
    (rotMaxQ s.cfg < s.rotQ.toNat + effMagnitude m * rotDen s.cfg ∧ rotateLeft m s = s)
      ∨ (s.rotQ.toNat + effMagnitude m * rotDen s.cfg ≤ rotMaxQ s.cfg
          ∧ rotateLeft m s = writeRot (s.rotQ.toNat + effMagnitude m * rotDen s.cfg) s) := by
  by_cases h : rotMaxQ s.cfg < s.rotQ.toNat + effMagnitude m * rotDen s.cfg
  · exact .inl ⟨h, by simp [rotateLeft, h]⟩
  · exact .inr ⟨by omega, by simp [rotateLeft, h]⟩

/-- The whole effect of enableMotors (R128). -/
theorem enableMotors_eq (s : State) :
    enableMotors s = { s with events := s.events ++ [.run .m1 (runSignal s.dir), .run .m2 (runSignal s.dir)] } := by
  simp [enableMotors, emitRun_eq]

/-- The whole effect of disableMotors (R129). -/
theorem disableMotors_eq (s : State) :
    disableMotors s = { s with events := s.events ++ [.run .m1 .release, .run .m2 .release] } := by
  simp [disableMotors, emitRun_eq]

/-- The whole effect of turnOff (R130). -/
theorem turnOff_eq (s : State) :
    turnOff s = { s with
      dir := .neutral
      speedQ := 0
      events := s.events ++ [.run .m1 .release, .run .m2 .release, .spd .m1 (spdByte s.cfg 0),
        .spd .m2 (spdByte s.cfg 0)] ++ pwmZeroes s.cfg } := by
  simp [turnOff, emitAll, writeSpeed_eq, emitRun_eq, setDir]

/-- The value a speed write leaves: in range, the 20-bit register holds it exactly (10_state.md R22). -/
theorem writeSpeed_speedQ_toNat (q : Nat) (s : State) (hq : q ≤ spdMaxQ s.cfg) (hc : s.cfg.closestSep ≤ 4095) :
    (writeSpeed q s).speedQ.toNat = q := by
  have : q < 2 ^ 20 := by
    unfold spdMaxQ spdDen at hq
    omega
  simpa using Nat.mod_eq_of_lt this

/-- The value a rotation write leaves: in range, the 20-bit register holds it exactly (10_state.md R23). -/
theorem writeRot_rotQ_toNat (q : Nat) (s : State) (hq : q ≤ rotMaxQ s.cfg) (hx : s.cfg.xMax ≤ 4095) :
    (writeRot q s).rotQ.toNat = q := by
  have : q < 2 ^ 20 := by
    unfold rotMaxQ rotDen at hq
    omega
  simpa using Nat.mod_eq_of_lt this

/-! ### Fields a micro-operation never writes -/

@[simp] theorem setDirection_cfg (d : Direction) (s : State) : (setDirection d s).cfg = s.cfg := by
  unfold setDirection; split <;> rfl
@[simp] theorem setDirection_trkMem (d : Direction) (s : State) : (setDirection d s).trkMem = s.trkMem := by
  unfold setDirection; split <;> rfl
@[simp] theorem setDirection_mode (d : Direction) (s : State) : (setDirection d s).mode = s.mode := by
  unfold setDirection; split <;> rfl
@[simp] theorem setDirection_frame (d : Direction) (s : State) : (setDirection d s).frame = s.frame := by
  unfold setDirection; split <;> rfl
@[simp] theorem setDirection_halted (d : Direction) (s : State) : (setDirection d s).halted = s.halted := by
  unfold setDirection; split <;> rfl
@[simp] theorem setDirection_ill (d : Direction) (s : State) : (setDirection d s).ill = s.ill := by
  unfold setDirection; split <;> rfl
@[simp] theorem setDirection_inbox (d : Direction) (s : State) : (setDirection d s).inbox = s.inbox := by
  unfold setDirection; split <;> rfl
@[simp] theorem setDirection_readData (d : Direction) (s : State) : (setDirection d s).readData = s.readData := by
  unfold setDirection; split <;> rfl
@[simp] theorem setDirection_rotQ (d : Direction) (s : State) : (setDirection d s).rotQ = s.rotQ := by
  unfold setDirection; split <;> rfl

@[simp] theorem increaseSpeed_cfg (s : State) : (increaseSpeed s).cfg = s.cfg := by
  unfold increaseSpeed; split <;> rfl
@[simp] theorem increaseSpeed_trkMem (s : State) : (increaseSpeed s).trkMem = s.trkMem := by
  unfold increaseSpeed; split <;> rfl
@[simp] theorem increaseSpeed_mode (s : State) : (increaseSpeed s).mode = s.mode := by
  unfold increaseSpeed; split <;> rfl
@[simp] theorem increaseSpeed_frame (s : State) : (increaseSpeed s).frame = s.frame := by
  unfold increaseSpeed; split <;> rfl
@[simp] theorem increaseSpeed_halted (s : State) : (increaseSpeed s).halted = s.halted := by
  unfold increaseSpeed; split <;> rfl
@[simp] theorem increaseSpeed_ill (s : State) : (increaseSpeed s).ill = s.ill := by
  unfold increaseSpeed; split <;> rfl
@[simp] theorem increaseSpeed_inbox (s : State) : (increaseSpeed s).inbox = s.inbox := by
  unfold increaseSpeed; split <;> rfl
@[simp] theorem increaseSpeed_readData (s : State) : (increaseSpeed s).readData = s.readData := by
  unfold increaseSpeed; split <;> rfl
@[simp] theorem increaseSpeed_dir (s : State) : (increaseSpeed s).dir = s.dir := by
  unfold increaseSpeed; split <;> rfl
@[simp] theorem increaseSpeed_rotQ (s : State) : (increaseSpeed s).rotQ = s.rotQ := by
  unfold increaseSpeed; split <;> rfl

@[simp] theorem decreaseSpeed_cfg (s : State) : (decreaseSpeed s).cfg = s.cfg := by
  unfold decreaseSpeed; split <;> rfl
@[simp] theorem decreaseSpeed_trkMem (s : State) : (decreaseSpeed s).trkMem = s.trkMem := by
  unfold decreaseSpeed; split <;> rfl
@[simp] theorem decreaseSpeed_mode (s : State) : (decreaseSpeed s).mode = s.mode := by
  unfold decreaseSpeed; split <;> rfl
@[simp] theorem decreaseSpeed_frame (s : State) : (decreaseSpeed s).frame = s.frame := by
  unfold decreaseSpeed; split <;> rfl
@[simp] theorem decreaseSpeed_halted (s : State) : (decreaseSpeed s).halted = s.halted := by
  unfold decreaseSpeed; split <;> rfl
@[simp] theorem decreaseSpeed_ill (s : State) : (decreaseSpeed s).ill = s.ill := by
  unfold decreaseSpeed; split <;> rfl
@[simp] theorem decreaseSpeed_inbox (s : State) : (decreaseSpeed s).inbox = s.inbox := by
  unfold decreaseSpeed; split <;> rfl
@[simp] theorem decreaseSpeed_readData (s : State) : (decreaseSpeed s).readData = s.readData := by
  unfold decreaseSpeed; split <;> rfl
@[simp] theorem decreaseSpeed_dir (s : State) : (decreaseSpeed s).dir = s.dir := by
  unfold decreaseSpeed; split <;> rfl
@[simp] theorem decreaseSpeed_rotQ (s : State) : (decreaseSpeed s).rotQ = s.rotQ := by
  unfold decreaseSpeed; split <;> rfl

@[simp] theorem snapSpeedQ_cfg (q : Int) (s : State) : (snapSpeedQ q s).cfg = s.cfg := by
  unfold snapSpeedQ; split; rfl; split <;> rfl
@[simp] theorem snapSpeedQ_trkMem (q : Int) (s : State) : (snapSpeedQ q s).trkMem = s.trkMem := by
  unfold snapSpeedQ; split; rfl; split <;> rfl
@[simp] theorem snapSpeedQ_mode (q : Int) (s : State) : (snapSpeedQ q s).mode = s.mode := by
  unfold snapSpeedQ; split; rfl; split <;> rfl
@[simp] theorem snapSpeedQ_frame (q : Int) (s : State) : (snapSpeedQ q s).frame = s.frame := by
  unfold snapSpeedQ; split; rfl; split <;> rfl
@[simp] theorem snapSpeedQ_halted (q : Int) (s : State) : (snapSpeedQ q s).halted = s.halted := by
  unfold snapSpeedQ; split; rfl; split <;> rfl
@[simp] theorem snapSpeedQ_ill (q : Int) (s : State) : (snapSpeedQ q s).ill = s.ill := by
  unfold snapSpeedQ; split; rfl; split <;> rfl
@[simp] theorem snapSpeedQ_inbox (q : Int) (s : State) : (snapSpeedQ q s).inbox = s.inbox := by
  unfold snapSpeedQ; split; rfl; split <;> rfl
@[simp] theorem snapSpeedQ_readData (q : Int) (s : State) : (snapSpeedQ q s).readData = s.readData := by
  unfold snapSpeedQ; split; rfl; split <;> rfl
@[simp] theorem snapSpeedQ_dir (q : Int) (s : State) : (snapSpeedQ q s).dir = s.dir := by
  unfold snapSpeedQ; split; rfl; split <;> rfl
@[simp] theorem snapSpeedQ_rotQ (q : Int) (s : State) : (snapSpeedQ q s).rotQ = s.rotQ := by
  unfold snapSpeedQ; split; rfl; split <;> rfl

@[simp] theorem snapRotateQ_cfg (q : Int) (s : State) : (snapRotateQ q s).cfg = s.cfg := by
  unfold snapRotateQ; split <;> rfl
@[simp] theorem snapRotateQ_trkMem (q : Int) (s : State) : (snapRotateQ q s).trkMem = s.trkMem := by
  unfold snapRotateQ; split <;> rfl
@[simp] theorem snapRotateQ_mode (q : Int) (s : State) : (snapRotateQ q s).mode = s.mode := by
  unfold snapRotateQ; split <;> rfl
@[simp] theorem snapRotateQ_frame (q : Int) (s : State) : (snapRotateQ q s).frame = s.frame := by
  unfold snapRotateQ; split <;> rfl
@[simp] theorem snapRotateQ_halted (q : Int) (s : State) : (snapRotateQ q s).halted = s.halted := by
  unfold snapRotateQ; split <;> rfl
@[simp] theorem snapRotateQ_ill (q : Int) (s : State) : (snapRotateQ q s).ill = s.ill := by
  unfold snapRotateQ; split <;> rfl
@[simp] theorem snapRotateQ_inbox (q : Int) (s : State) : (snapRotateQ q s).inbox = s.inbox := by
  unfold snapRotateQ; split <;> rfl
@[simp] theorem snapRotateQ_readData (q : Int) (s : State) : (snapRotateQ q s).readData = s.readData := by
  unfold snapRotateQ; split <;> rfl
@[simp] theorem snapRotateQ_dir (q : Int) (s : State) : (snapRotateQ q s).dir = s.dir := by
  unfold snapRotateQ; split <;> rfl
@[simp] theorem snapRotateQ_speedQ (q : Int) (s : State) : (snapRotateQ q s).speedQ = s.speedQ := by
  unfold snapRotateQ; split <;> rfl

@[simp] theorem rotateRight_cfg (m : Nat) (s : State) : (rotateRight m s).cfg = s.cfg := by
  unfold rotateRight; dsimp only; split <;> rfl
@[simp] theorem rotateRight_trkMem (m : Nat) (s : State) : (rotateRight m s).trkMem = s.trkMem := by
  unfold rotateRight; dsimp only; split <;> rfl
@[simp] theorem rotateRight_mode (m : Nat) (s : State) : (rotateRight m s).mode = s.mode := by
  unfold rotateRight; dsimp only; split <;> rfl
@[simp] theorem rotateRight_frame (m : Nat) (s : State) : (rotateRight m s).frame = s.frame := by
  unfold rotateRight; dsimp only; split <;> rfl
@[simp] theorem rotateRight_halted (m : Nat) (s : State) : (rotateRight m s).halted = s.halted := by
  unfold rotateRight; dsimp only; split <;> rfl
@[simp] theorem rotateRight_ill (m : Nat) (s : State) : (rotateRight m s).ill = s.ill := by
  unfold rotateRight; dsimp only; split <;> rfl
@[simp] theorem rotateRight_inbox (m : Nat) (s : State) : (rotateRight m s).inbox = s.inbox := by
  unfold rotateRight; dsimp only; split <;> rfl
@[simp] theorem rotateRight_readData (m : Nat) (s : State) : (rotateRight m s).readData = s.readData := by
  unfold rotateRight; dsimp only; split <;> rfl
@[simp] theorem rotateRight_dir (m : Nat) (s : State) : (rotateRight m s).dir = s.dir := by
  unfold rotateRight; dsimp only; split <;> rfl
@[simp] theorem rotateRight_speedQ (m : Nat) (s : State) : (rotateRight m s).speedQ = s.speedQ := by
  unfold rotateRight; dsimp only; split <;> rfl

@[simp] theorem rotateLeft_cfg (m : Nat) (s : State) : (rotateLeft m s).cfg = s.cfg := by
  unfold rotateLeft; dsimp only; split <;> rfl
@[simp] theorem rotateLeft_trkMem (m : Nat) (s : State) : (rotateLeft m s).trkMem = s.trkMem := by
  unfold rotateLeft; dsimp only; split <;> rfl
@[simp] theorem rotateLeft_mode (m : Nat) (s : State) : (rotateLeft m s).mode = s.mode := by
  unfold rotateLeft; dsimp only; split <;> rfl
@[simp] theorem rotateLeft_frame (m : Nat) (s : State) : (rotateLeft m s).frame = s.frame := by
  unfold rotateLeft; dsimp only; split <;> rfl
@[simp] theorem rotateLeft_halted (m : Nat) (s : State) : (rotateLeft m s).halted = s.halted := by
  unfold rotateLeft; dsimp only; split <;> rfl
@[simp] theorem rotateLeft_ill (m : Nat) (s : State) : (rotateLeft m s).ill = s.ill := by
  unfold rotateLeft; dsimp only; split <;> rfl
@[simp] theorem rotateLeft_inbox (m : Nat) (s : State) : (rotateLeft m s).inbox = s.inbox := by
  unfold rotateLeft; dsimp only; split <;> rfl
@[simp] theorem rotateLeft_readData (m : Nat) (s : State) : (rotateLeft m s).readData = s.readData := by
  unfold rotateLeft; dsimp only; split <;> rfl
@[simp] theorem rotateLeft_dir (m : Nat) (s : State) : (rotateLeft m s).dir = s.dir := by
  unfold rotateLeft; dsimp only; split <;> rfl
@[simp] theorem rotateLeft_speedQ (m : Nat) (s : State) : (rotateLeft m s).speedQ = s.speedQ := by
  unfold rotateLeft; dsimp only; split <;> rfl

@[simp] theorem enableMotors_cfg (s : State) : (enableMotors s).cfg = s.cfg := rfl
@[simp] theorem enableMotors_trkMem (s : State) : (enableMotors s).trkMem = s.trkMem := rfl
@[simp] theorem enableMotors_mode (s : State) : (enableMotors s).mode = s.mode := rfl
@[simp] theorem enableMotors_frame (s : State) : (enableMotors s).frame = s.frame := rfl
@[simp] theorem enableMotors_halted (s : State) : (enableMotors s).halted = s.halted := rfl
@[simp] theorem enableMotors_ill (s : State) : (enableMotors s).ill = s.ill := rfl
@[simp] theorem enableMotors_inbox (s : State) : (enableMotors s).inbox = s.inbox := rfl
@[simp] theorem enableMotors_readData (s : State) : (enableMotors s).readData = s.readData := rfl
@[simp] theorem enableMotors_dir (s : State) : (enableMotors s).dir = s.dir := rfl
@[simp] theorem enableMotors_speedQ (s : State) : (enableMotors s).speedQ = s.speedQ := rfl
@[simp] theorem enableMotors_rotQ (s : State) : (enableMotors s).rotQ = s.rotQ := rfl

@[simp] theorem disableMotors_cfg (s : State) : (disableMotors s).cfg = s.cfg := rfl
@[simp] theorem disableMotors_trkMem (s : State) : (disableMotors s).trkMem = s.trkMem := rfl
@[simp] theorem disableMotors_mode (s : State) : (disableMotors s).mode = s.mode := rfl
@[simp] theorem disableMotors_frame (s : State) : (disableMotors s).frame = s.frame := rfl
@[simp] theorem disableMotors_halted (s : State) : (disableMotors s).halted = s.halted := rfl
@[simp] theorem disableMotors_ill (s : State) : (disableMotors s).ill = s.ill := rfl
@[simp] theorem disableMotors_inbox (s : State) : (disableMotors s).inbox = s.inbox := rfl
@[simp] theorem disableMotors_readData (s : State) : (disableMotors s).readData = s.readData := rfl
@[simp] theorem disableMotors_dir (s : State) : (disableMotors s).dir = s.dir := rfl
@[simp] theorem disableMotors_speedQ (s : State) : (disableMotors s).speedQ = s.speedQ := rfl
@[simp] theorem disableMotors_rotQ (s : State) : (disableMotors s).rotQ = s.rotQ := rfl

@[simp] theorem turnOff_cfg (s : State) : (turnOff s).cfg = s.cfg := rfl
@[simp] theorem turnOff_trkMem (s : State) : (turnOff s).trkMem = s.trkMem := rfl
@[simp] theorem turnOff_mode (s : State) : (turnOff s).mode = s.mode := rfl
@[simp] theorem turnOff_frame (s : State) : (turnOff s).frame = s.frame := rfl
@[simp] theorem turnOff_halted (s : State) : (turnOff s).halted = s.halted := rfl
@[simp] theorem turnOff_ill (s : State) : (turnOff s).ill = s.ill := rfl
@[simp] theorem turnOff_inbox (s : State) : (turnOff s).inbox = s.inbox := rfl
@[simp] theorem turnOff_readData (s : State) : (turnOff s).readData = s.readData := rfl
@[simp] theorem turnOff_rotQ (s : State) : (turnOff s).rotQ = s.rotQ := rfl

end Sys2Proof.Machine
end

