-- ==== Sys2Proof/Laws/PerInstr.lean ====
section
/-! SUPPORT. Facts about every command as syntax, one lemma per constructor of `Instr`. -/

/-- The encoder, which is written from the formats (30_encoding.md R81), and the opcode map, which is written from
"match" and "mask" (R89), agree: the word of a command matches the row of its mnemonic. -/
def Sys2Proof.Laws.EncodesInItsRow.Statement (i : Sys2Proof.Instr) : Prop :=
  i.row ∈ Sys2Proof.opcodeTable ∧ i.row.Matches (Sys2Proof.encode i)

namespace Sys2Proof.Laws

theorem EncodesInItsRow.nop : EncodesInItsRow.Statement .nop := by
  unfold EncodesInItsRow.Statement; decide

theorem EncodesInItsRow.setdir (d : Direction) : EncodesInItsRow.Statement (.setdir d) := by
  cases d <;> (unfold EncodesInItsRow.Statement; decide)

theorem EncodesInItsRow.inc : EncodesInItsRow.Statement .inc := by
  unfold EncodesInItsRow.Statement; decide

theorem EncodesInItsRow.dec : EncodesInItsRow.Statement .dec := by
  unfold EncodesInItsRow.Statement; decide

theorem EncodesInItsRow.snapspd (p : Int) : EncodesInItsRow.Statement (.snapspd p) := by
  exact ⟨by simp [Instr.row, opcodeTable], append_and_high ((4 : BitVec 5) ++ (0 : BitVec 11)) (BitVec.ofInt 16 p)⟩

theorem EncodesInItsRow.rotr (m : Nat) : EncodesInItsRow.Statement (.rotr m) := by
  exact ⟨by simp [Instr.row, opcodeTable], append_and_high ((5 : BitVec 5) ++ (0 : BitVec 11)) (BitVec.ofNat 16 m)⟩

theorem EncodesInItsRow.rotl (m : Nat) : EncodesInItsRow.Statement (.rotl m) := by
  exact ⟨by simp [Instr.row, opcodeTable], append_and_high ((6 : BitVec 5) ++ (0 : BitVec 11)) (BitVec.ofNat 16 m)⟩

theorem EncodesInItsRow.snaprot (p : Int) : EncodesInItsRow.Statement (.snaprot p) := by
  exact ⟨by simp [Instr.row, opcodeTable], append_and_high ((7 : BitVec 5) ++ (0 : BitVec 11)) (BitVec.ofInt 16 p)⟩

theorem EncodesInItsRow.enable : EncodesInItsRow.Statement .enable := by
  unfold EncodesInItsRow.Statement; decide

theorem EncodesInItsRow.disable : EncodesInItsRow.Statement .disable := by
  unfold EncodesInItsRow.Statement; decide

theorem EncodesInItsRow.turnoff : EncodesInItsRow.Statement .turnoff := by
  unfold EncodesInItsRow.Statement; decide

theorem EncodesInItsRow.bclr : EncodesInItsRow.Statement .bclr := by
  unfold EncodesInItsRow.Statement; decide

theorem EncodesInItsRow.bslot (slot : Fin 4) (v : Bool) (x y : BitVec 12) : EncodesInItsRow.Statement (.bslot slot v x y) := by
  refine ⟨by simp [Instr.row, opcodeTable], ?_⟩
  have h : encodeB 0x11 slot v x y
      = (0x11 : BitVec 5) ++ ((BitVec.ofFin slot : BitVec 2) ++ BitVec.ofBool v ++ x ++ y) := by
    apply BitVec.eq_of_toNat_eq
    rw [encodeB_toNat]
    show _ = @BitVec.toNat (5 + (2 + 1 + 12 + 12)) ((0x11 : BitVec 5) ++ _)
    rw [append_toNat, append_toNat, append_toNat, append_toNat]
    simp
    omega
  show encodeB 0x11 slot v x y &&& 0xF8000000 = 0x88000000
  rw [h]
  exact append_and_high (0x11 : BitVec 5) ((BitVec.ofFin slot : BitVec 2) ++ BitVec.ofBool v ++ x ++ y)

theorem EncodesInItsRow.track : EncodesInItsRow.Statement .track := by
  unfold EncodesInItsRow.Statement; decide

theorem EncodesInItsRow.manual (keys : Keys) : EncodesInItsRow.Statement (.manual keys) := by
  exact ⟨by simp [Instr.row, opcodeTable], append_and_high ((0x14 : BitVec 5) ++ (0 : BitVec 19)) (keys.bits)⟩

theorem EncodesInItsRow.setmode (md : Mode) : EncodesInItsRow.Statement (.setmode md) := by
  cases md <;> (unfold EncodesInItsRow.Statement; decide)

theorem EncodesInItsRow.cycle (keys : Keys) : EncodesInItsRow.Statement (.cycle keys) := by
  exact ⟨by simp [Instr.row, opcodeTable], append_and_high ((0x16 : BitVec 5) ++ (0 : BitVec 19)) (keys.bits)⟩

end Sys2Proof.Laws
end

