-- ==== Sys2Proof/Laws/Step.lean ====
section
/-! SUPPORT. What each command's meaning is as an operation on states, and, once, everything a step can do
(43_supervisor.md R235). -/

namespace Sys2Proof.Machine

/-! ### Commands -/

@[simp] theorem exec_nop (s : State) :
    exec .nop s = .next s := rfl
@[simp] theorem exec_setdir (d : Direction) (s : State) :
    exec (.setdir d) s = .next (setDirection d s) := rfl
@[simp] theorem exec_inc (s : State) :
    exec .inc s = .next (increaseSpeed s) := rfl
@[simp] theorem exec_dec (s : State) :
    exec .dec s = .next (decreaseSpeed s) := rfl
@[simp] theorem exec_snapspd (p : Int) (s : State) :
    exec (.snapspd p) s = .next (snapSpeedQ (p * (spdDen s.cfg : Int)) s) := rfl
@[simp] theorem exec_rotr (m : Nat) (s : State) :
    exec (.rotr m) s = .next (rotateRight m s) := rfl
@[simp] theorem exec_rotl (m : Nat) (s : State) :
    exec (.rotl m) s = .next (rotateLeft m s) := rfl
@[simp] theorem exec_snaprot (p : Int) (s : State) :
    exec (.snaprot p) s = .next (snapRotateQ (p * (rotDen s.cfg : Int)) s) := rfl
@[simp] theorem exec_enable (s : State) :
    exec .enable s = .next (enableMotors s) := rfl
@[simp] theorem exec_disable (s : State) :
    exec .disable s = .next (disableMotors s) := rfl
@[simp] theorem exec_turnoff (s : State) :
    exec .turnoff s = .next (turnOff s) := rfl
@[simp] theorem exec_bclr (s : State) :
    exec .bclr s = .next (setFrame Frame.empty s) := rfl
@[simp] theorem exec_bslot (slot : Fin 4) (v : Bool) (x y : BitVec 12) (s : State) :
    exec (.bslot slot v x y) s = .next (setFrame (s.frame.set slot (loadedSlot v x y)) s) := rfl
@[simp] theorem exec_track (s : State) :
    exec .track s = .next (trackCycle s) := rfl
@[simp] theorem exec_manual (k : Keys) (s : State) :
    exec (.manual k) s = .next (manualCycle k s) := rfl
@[simp] theorem exec_setmode (m : Mode) (s : State) :
    exec (.setmode m) s = .next (setMode m s) := rfl
@[simp] theorem exec_cycle (k : Keys) (s : State) :
    exec (.cycle k) s = .next (supervisorCycle k s) := rfl

/-! ### The step -/

/-- A step that answers a next state is idle, or takes an illegal word, a discarded command, a command that runs, a
read, or a reset, each with what it leaves. -/
theorem step_cases (s t : State) (h : step s = .next t) :
    (s.inbox = [] ∧ t = s)
      ∨ (∃ w rest e, s.inbox = .command w :: rest ∧ decode w = .error e ∧ t = raiseIll (setInbox rest s))
      ∨ (∃ w rest i, s.inbox = .command w :: rest ∧ decode w = .ok i ∧ discarded i s = true ∧ t = setInbox rest s)
      ∨ (∃ w rest i, s.inbox = .command w :: rest ∧ decode w = .ok i ∧ discarded i s = false
          ∧ exec i (setInbox rest s) = .next t)
      ∨ (∃ a rest, s.inbox = .read a :: rest ∧ t = serveRead a (setInbox rest s))
      ∨ (∃ rest, s.inbox = .reset :: rest ∧ t = applyReset (setInbox rest s)) := by
  unfold step takeInput at h
  split at h
  · rename_i hin
    cases h
    exact .inl ⟨hin, rfl⟩
  · rename_i w rest hin
    unfold acceptCommand at h
    split at h
    · rename_i e hd
      cases h
      exact .inr (.inl ⟨w, rest, e, hin, hd, rfl⟩)
    · rename_i i hd
      have hg : discarded i (setInbox rest s) = discarded i s := rfl
      split at h
      · rename_i hx
        cases h
        exact .inr (.inr (.inl ⟨w, rest, i, hin, hd, hg ▸ hx, rfl⟩))
      · rename_i hx
        exact .inr (.inr (.inr (.inl ⟨w, rest, i, hin, hd, by rw [← hg]; simpa using hx, h⟩)))
  · rename_i a rest hin
    cases h
    exact .inr (.inr (.inr (.inr (.inl ⟨a, rest, hin, rfl⟩))))
  · rename_i rest hin
    cases h
    exact .inr (.inr (.inr (.inr (.inr ⟨rest, hin, rfl⟩))))

/-- The points of a frame are those of its slots that are valid, in slot order (41_tracking.md R162). -/
theorem mem_validPoints (f : Frame) (p : Slot) : p ∈ validPoints f ↔ p.v = true ∧ ∃ i : Fin 4, f.get i = p := by
  constructor
  · intro h
    simp only [validPoints, Frame.slots, List.mem_filter, List.mem_cons, List.not_mem_nil, or_false] at h
    obtain ⟨h | h | h | h, hv⟩ := h
    · exact ⟨hv, 0, h.symm⟩
    · exact ⟨hv, 1, h.symm⟩
    · exact ⟨hv, 2, h.symm⟩
    · exact ⟨hv, 3, h.symm⟩
  · rintro ⟨hv, i, rfl⟩
    simp only [validPoints, Frame.slots, List.mem_filter, List.mem_cons, List.not_mem_nil, or_false]
    refine ⟨?_, hv⟩
    match i with
    | 0 => exact .inl rfl
    | 1 => exact .inr (.inl rfl)
    | 2 => exact .inr (.inr (.inl rfl))
    | 3 => exact .inr (.inr (.inr rfl))

/-- Reading a slot of a frame after writing one. -/
theorem frame_get_set (f : Frame) (i j : Fin 4) (t : Slot) : (f.set i t).get j = if j = i then t else f.get j := by
  match i, j with
  | 0, 0 | 0, 1 | 0, 2 | 0, 3 | 1, 0 | 1, 1 | 1, 2 | 1, 3 | 2, 0 | 2, 1 | 2, 2 | 2, 3 | 3, 0 | 3, 1 | 3, 2 | 3, 3 =>
    simp [Frame.set, Frame.get]

/-- A separation fits the 12 bits of TRK_MEM (41_tracking.md R168). -/
theorem separation_le (a b : Slot) : separation a b ≤ 4095 := by
  have := a.y.isLt
  have := b.y.isLt
  unfold separation
  omega

end Sys2Proof.Machine
end

