-- ==== Sys2Proof/Tests/Slice0.lean ====
section
/-! SUPPORT. Small tests of the model: the well-formedness smoke test, words written out from 30_encoding.md, at most two
one-step tests per command with results from 95_test_vectors.md, and a witness for the hypotheses of every statement. -/

namespace Sys2Proof.Tests

open Sys2Proof.Machine Sys2Proof.Safety

/-! ### Helpers -/

/-- The next state of an outcome. -/
def after : Host.Outcome State Fault Refusal → Option State
  | .next t => some t
  | .fault _ => none
  | .refused _ => none

/-- The reset state with a direction and a speed. -/
def driving (d : Direction) (q : BitVec 20) : State := { State.reset with dir := d, speedQ := q }

/-- The reset state with a rotation. -/
def turned (q : BitVec 20) : State := { State.reset with rotQ := q }

/-- A present point. -/
def pt (x y : BitVec 12) : Slot := ⟨true, x, y⟩

/-- A frame of the points given, the other slots absent. -/
def framed (d : Direction) (a b : Slot) : State :=
  { State.reset with dir := d, frame := ⟨a, b, Slot.absent, Slot.absent⟩ }

/-- A state with one input on its ports. -/
def offered (i : HostInput) (s : State) : State := { s with inbox := [i] }

/-- A halted state. -/
def stopped : State := { State.reset with halted := true }

/-- The keys of a bit mask (30_encoding.md R86). -/
def keys (n : Nat) : Keys := keysOfBits (BitVec.ofNat 8 n)

theorem standard_legal : Config.standard.Legal := by constructor <;> decide

/-! ### WellFormed smoke test (30_encoding.md R82, R83, R92) -/

theorem test_wf_snapspd : (Instr.snapspd (-32768)).wellFormed = true ∧ (Instr.snapspd (-32769)).wellFormed = false
    ∧ (Instr.snapspd 32768).wellFormed = false := by decide

theorem test_wf_snaprot : (Instr.snaprot 32767).wellFormed = true ∧ (Instr.snaprot 32768).wellFormed = false
    ∧ (Instr.snaprot (-32769)).wellFormed = false := by decide

theorem test_wf_rotr : (Instr.rotr 65535).wellFormed = true ∧ (Instr.rotr 65536).wellFormed = false := by decide

theorem test_wf_rotl : (Instr.rotl 65535).wellFormed = true ∧ (Instr.rotl 65536).wellFormed = false := by decide

/-! ### Words written out bit by bit from the formats of 30_encoding.md R81 and the opcodes of R89 -/

theorem test_decode_nop : decode 0b00000_000000000000000000000000000 = .ok .nop := by decide
theorem test_decode_setdir : decode 0b00001_0000000000000000000000000_10 = .ok (.setdir .backward) := by decide
theorem test_decode_inc : decode 0b00010_000000000000000000000000000 = .ok .inc := by decide
theorem test_decode_dec : decode 0b00011_000000000000000000000000000 = .ok .dec := by decide
theorem test_decode_snapspd : decode 0b00100_00000000000_1111111111111110 = .ok (.snapspd (-2)) := by decide
theorem test_decode_rotr : decode 0b00101_00000000000_1000000000000010 = .ok (.rotr 32770) := by decide
theorem test_decode_rotl : decode 0b00110_00000000000_0000000000000000 = .ok (.rotl 0) := by decide
theorem test_decode_snaprot : decode 0b00111_00000000000_0000000000010100 = .ok (.snaprot 20) := by decide
theorem test_decode_enable : decode 0b01000_000000000000000000000000000 = .ok .enable := by decide
theorem test_decode_disable : decode 0b01001_000000000000000000000000000 = .ok .disable := by decide
theorem test_decode_turnoff : decode 0b01010_000000000000000000000000000 = .ok .turnoff := by decide
theorem test_decode_bclr : decode 0b10000_000000000000000000000000000 = .ok .bclr := by decide
theorem test_decode_bslot : decode 0b10001_01_1_000100101100_000000110010 = .ok (.bslot 1 true 300 50) := by decide
theorem test_decode_track : decode 0b10010_000000000000000000000000000 = .ok .track := by decide
theorem test_decode_manual : decode 0b10100_0000000000000000000_01010010
    = .ok (.manual ⟨false, true, false, false, true, false, true, false⟩) := by decide
theorem test_decode_setmode : decode 0b10101_00000000000000000000000000_1 = .ok (.setmode .track) := by decide
theorem test_decode_cycle : decode 0b10110_0000000000000000000_10101101
    = .ok (.cycle ⟨true, false, true, true, false, true, false, true⟩) := by decide

/-- 95_test_vectors.md section 6.2, E1 to E15. -/
theorem test_decode_refuses :
    [0x58000000, 0x78000000, 0x98000000, 0xB8000000, 0xFFFFFFFF].map decode
        = List.replicate 5 (.error .reservedOpcode)
    ∧ decode 0x08000003 = .error .reservedDirection
    ∧ [0x0C000001, 0x00000001, 0x10000001, 0x54000000, 0x20010032, 0x28010000, 0xA0000100, 0xA8000002,
        0xB4000020].map decode = List.replicate 9 (.error .reservedBits) := by decide

theorem test_decode_bytes : decodeBytes [0x32, 0xC0, 0x12, 0x8B, 0x07] = .ok (.bslot 1 true 300 50, [0x07])
    ∧ decodeBytes [0x32, 0xC0, 0x12] = .error .truncated := by decide

theorem test_table_word : decodeTableWord 32 0x2000FFFF = some (.snapspd (-1))
    ∧ decodeTableWord 32 0x58000000 = none := by decide

/-- 95_test_vectors.md section 6.1: assembly text to words. -/
theorem test_assemble : assembleLine "SNAPSPD -1".toList = some [0x2000FFFF]
    ∧ assembleLine "BSLOT 1, 300, 50 ; one".toList = some [0x8B12C032]
    ∧ assembleLine "FRAME (100,0), (300,50)".toList = some [0x80000000, 0x89064000, 0x8B12C032]
    ∧ assembleLine "ROTL 65536".toList = none := by decide

/-! ### One step of each command, results from 95_test_vectors.md -/

/-- S1. -/
theorem test_nop : after (exec .nop (driving .forward 45000)) = some (driving .forward 45000) := by decide

/-- A3. -/
theorem test_setdir_neutral : after (exec (.setdir .neutral) (driving .forward 45000))
    = some { State.reset with events := [.spd .m1 0, .spd .m2 0] } := by decide

/-- A2. -/
theorem test_setdir_backward : after (exec (.setdir .backward) (driving .forward 45000))
    = some (driving .backward 45000) := by decide

/-- A8: the ramp saturates at 100 %. -/
theorem test_inc_saturates : (after (exec .inc (driving .forward 87300))).map (fun t => (t.speedQ, t.events))
    = some (90000, [.spd .m1 255, .spd .m2 255]) := by decide

/-- A11: exactly 5 % from 800/9 %. -/
theorem test_inc_from_snap : (after (exec .inc (driving .forward 80000))).map (fun t => (t.speedQ, t.events))
    = some (84500, [.spd .m1 239, .spd .m2 239]) := by decide

/-- A14: saturates at 0, DIR stays. -/
theorem test_dec_saturates : (after (exec .dec (driving .forward 2700))).map (fun t => (t.speedQ, t.dir, t.events))
    = some (0, .forward, [.spd .m1 0, .spd .m2 0]) := by decide

/-- A12. -/
theorem test_dec_neutral : after (exec .dec State.reset) = some State.reset := by decide

/-- A23: the tie at 30 % rounds to even. -/
theorem test_snapspd_tie : (after (exec (.snapspd 30) (driving .forward 0))).map (fun t => (t.speedQ, t.events))
    = some (27000, [.spd .m1 76, .spd .m2 76]) := by decide

/-- L1-4a. -/
theorem test_snapspd_ignored : after (exec (.snapspd 150) (driving .forward 0)) = some (driving .forward 0) := by decide

/-- A30: a move onto 0 is taken. -/
theorem test_rotr_onto_zero : (after (exec (.rotr 1) (turned 2000))).map (fun t => (t.rotQ, t.events))
    = some (0, [.pwm 0 0 205]) := by decide

/-- A29: a move past 0 is ignored. -/
theorem test_rotr_ignored : after (exec (.rotr 2) (turned 2000)) = some (turned 2000) := by decide

/-- A39: magnitude 0 is 1. -/
theorem test_rotl_default : (after (exec (.rotl 0) State.reset)).map (fun t => (t.rotQ, t.events))
    = some (102000, [.pwm 0 0 278]) := by decide

/-- A40: past 100 by half a percent. -/
theorem test_rotl_ignored : after (exec (.rotl 0) (turned 199000)) = some (turned 199000) := by decide

/-- A42. -/
theorem test_snaprot : (after (exec (.snaprot 20) State.reset)).map (fun t => (t.rotQ, t.events))
    = some (40000, [.pwm 0 0 233]) := by decide

/-- A43. -/
theorem test_snaprot_ignored : after (exec (.snaprot 101) State.reset) = some State.reset := by decide

/-- A49. -/
theorem test_enable : (after (exec .enable (driving .backward 45000))).map State.events
    = some [.run .m1 .backward, .run .m2 .backward] := by decide

/-- A51. -/
theorem test_disable : (after (exec .disable (driving .forward 45000))).map State.events
    = some [.run .m1 .release, .run .m2 .release] := by decide

/-- A54: without a PWM controller only the four motor events. -/
theorem test_turnoff_detached :
    after (exec .turnoff { driving .backward 9000 with cfg := { pwmAttached := false } })
      = some { State.reset with
          cfg := { pwmAttached := false }
          events := [.run .m1 .release, .run .m2 .release, .spd .m1 0, .spd .m2 0] } := by decide

/-- A52: sixteen channels, in order. -/
theorem test_turnoff_channels : (after (exec .turnoff State.reset)).map (fun t => t.events.drop 4)
    = some ((List.range 16).map (fun ch => .pwm ch 0 0)) := by decide

/-- T1. -/
theorem test_bclr : after (exec .bclr (framed .neutral (pt 100 0) (pt 300 50))) = some State.reset := by decide

/-- T4: V = 0 with X and Y set is stored as absent. -/
theorem test_bslot_none : after (exec (.bslot 0 false 100 50) State.reset) = some State.reset := by decide

/-- T2. -/
theorem test_bslot : (after (exec (.bslot 1 true 300 50) State.reset)).map State.frame
    = some ⟨Slot.absent, pt 300 50, Slot.absent, Slot.absent⟩ := by decide

/-- L1-6a. -/
theorem test_track_pair : (after (exec .track (framed .forward (pt 100 0) (pt 300 50)))).map
      (fun t => (t.rotQ, t.speedQ, t.trkMem, t.events))
    = some (40000, 80000, 50,
        [.pwm 0 0 233, .spd .m1 227, .spd .m2 227, .run .m1 .forward, .run .m2 .forward]) := by decide

/-- T25: two points tie for the greatest Y and the first is taken. -/
theorem test_track_tie : (after (exec .track
      { State.reset with dir := .forward, frame := ⟨pt 100 4000, pt 900 0, pt 500 4000, Slot.absent⟩ })).map
      (fun t => (t.rotQ, t.speedQ, t.trkMem)) = some (100000, 0, 4000) := by decide

/-- K7: the crossing cycle with HOLD sends the new direction. -/
theorem test_manual_crossing : (after (exec (.manual (keys 0x12)) (driving .forward 4500))).map
      (fun t => (t.dir, t.speedQ, t.events))
    = some (.backward, 0, [.spd .m1 0, .spd .m2 0, .run .m1 .backward, .run .m2 .backward]) := by decide

/-- K20: the event order of a manual cycle. -/
theorem test_manual_order : (after (exec (.manual (keys 0x19)) (driving .forward 87300))).map State.events
    = some [.spd .m1 255, .spd .m2 255, .pwm 0 0 278, .run .m1 .forward, .run .m2 .forward] := by decide

/-- S2. -/
theorem test_setmode : after (exec (.setmode .track) State.reset) = some { State.reset with mode := .track } := by decide

/-- S5: EXIT wins over every other key. -/
theorem test_cycle_exit : (after (exec (.cycle (keys 0xB1)) (driving .forward 45000))).map
      (fun t => (t.dir, t.speedQ, t.halted, t.mode)) = some (.neutral, 0, true, .manual) := by decide

/-- S10: in TRACK mode the tracker runs and the manual keys are ignored. -/
theorem test_cycle_track :
    (after (exec (.cycle (keys 0x11)) { framed .forward (pt 100 0) (pt 300 50) with mode := .track })).map
      (fun t => (t.rotQ, t.speedQ, t.trkMem)) = some (40000, 80000, 50) := by decide

/-- S13: an illegal word sets ILL while HALTED; S11: INC is discarded there. -/
theorem test_step_halted : after (step (stopped.withFetchWord 32 0xFFFFFFFF)) = some { stopped with ill := true }
    ∧ after (step (stopped.withFetchWord 32 0x10000000)) = some stopped := by decide

/-- RD1. -/
theorem test_read_port : [0x00, 0x01, 0x05, 0x06, 0x07, 0x10, 0x11, 0x13, 0xFF].map (readPort State.reset)
    = [0x4A430001, 0, 100000, 450, 0, 1000, 450, 0x110, 0] := by decide

/-- 95_test_vectors.md section 2.1: both rounding modes at the ties of Speed 30 and 50, and the servo's ends. -/
theorem test_encoders : spdByte Config.standard 27000 = 76 ∧ spdByte { roundMode := .halfUp } 27000 = 77
    ∧ spdByte Config.standard 45000 = 128 ∧ servoTick Config.standard 0 = 205
    ∧ servoTick Config.standard 200000 = 348
    ∧ servoTick { servoSlopeNum := 5, servoSlopeDen := 100 } 200000 = 410 := by decide

/-! ### Witnesses: for every statement with hypotheses, a concrete case that meets them -/

theorem witness_DecodeOfEncodeIsTheCommand : (Instr.snapspd (-32768)).WellFormed ∧ (Instr.rotr 65535).WellFormed := by
  decide

theorem witness_EncodeOfDecodeIsTheWord : decode 0x8FFFFFFF = .ok (.bslot 3 true 4095 4095) := by decide

theorem witness_DecoderRefusesExactlyTheIllegalWords : IllegalWord 0x08000003 ∧ LegalWord 0x08000002
    ∧ ¬ IllegalWord 0x08000002 ∧ ¬ LegalWord 0x08000003 := by decide

theorem witness_EveryLegalWordIsOfOneRow :
    (∃ r ∈ opcodeTable, r.Matches 0xB00000FF) ∧ decode 0xB00000FF = .ok (.cycle (keys 255)) := by decide

theorem witness_TransportBytesTravelLeastSignificantFirst :
    decode 0x3000FFFF = .ok (.rotl 65535) ∧ decode 0x30010000 = .error .reservedBits := by decide

theorem witness_AssemblerReadsEverySpelling :
    (Instr.bslot 2 false 0 0).WellFormed ∧ Spellable (.bslot 2 false 0 0) = true ∧ Spellable (.cycle (keys 255)) = true := by
  decide

theorem witness_PseudoInstructionsExpand :
    [((4095 : BitVec 12), (0 : BitVec 12)), (0, 1), (1, 2), (2, 3)].length ≤ 4
    ∧ [((4095 : BitVec 12), (0 : BitVec 12)), (0, 1), (1, 2), (2, 3)][(3 : Fin 4).val]? = some (2, 3)
    ∧ State.reset.dir = .neutral := by decide

theorem witness_StepRunsTheDecodedCommand :
    (offered (.command 0x58000000) stopped).inbox = [.command 0x58000000] ∧ IllegalWord 0x58000000
    ∧ decode 0x10000000 = .ok .inc ∧ stopped.halted = true ∧ (Instr.inc ≠ .nop ∧ Instr.inc ≠ .turnoff)
    ∧ decode 0x50000000 = .ok .turnoff ∧ State.reset.halted = false
    ∧ (offered (.read 0x04) stopped).inbox = [.read 0x04] := by decide

theorem witness_IllegalWordOnlySetsIll :
    (offered (.command 0xFFFFFFFF) stopped).inbox = .command 0xFFFFFFFF :: [] ∧ IllegalWord 0xFFFFFFFF := by decide

theorem witness_ReadHasNoSideEffect :
    (offered (.read 0x0C) stopped).inbox = .read 0x0C :: [] ∧ (0x07 : ReadAddr).toNat = 7
    ∧ (12 ≤ (0x0C : ReadAddr).toNat ∧ (0x0F : ReadAddr).toNat ≤ 15) ∧ 20 ≤ (0x14 : ReadAddr).toNat := by decide

theorem witness_ReadPortShowsTheRegisters :
    (20 ≤ (0xFF : ReadAddr).toNat) ∧ readPort State.reset 0xFF = 0
    ∧ (BitVec.ofNat 8 (8 + (3 : Fin 4).val) : ReadAddr) = 0x0B := by decide

theorem witness_ResetPutsEveryRegister :
    ({ xMax := 4095, memInit := 4095 } : Config).xMax ≤ 4095 ∧ ({ xMax := 4095, memInit := 4095 } : Config).memInit ≤ 4095 := by
  decide

theorem witness_ResetActsBetweenCommands :
    (offered .reset stopped).inbox = .reset :: [] ∧ State.reset.inbox = [] := by decide

theorem witness_DriversAreUnknownUntilTheirFirstEvent :
    (∃ t : State, t.events = State.reset.events ++ [.spd .m1 0])
    ∧ (∀ sig, Event.run .m1 sig ∉ [Event.spd .m1 0]) ∧ (∀ v, Event.spd .m2 v ∉ [Event.spd .m1 0])
    ∧ (∀ on off, Event.pwm 0 on off ∉ [Event.spd .m1 0]) :=
  ⟨⟨{ State.reset with events := [.spd .m1 0] }, rfl⟩, by simp, by simp, by simp⟩

theorem witness_RecommendedBootMakesTheDriversKnown :
    ({ State.reset with cfg := { xMax := 4095 } } : State).cfg.xMax ≤ 4095 := by decide

theorem witness_RoundingTakesTheNearestInteger :
    0 < 2 ∧ 2 * ((51 : Int) - (roundDiv .halfEven 51 2 * 2 : Nat)).natAbs = 2
    ∧ 2 * ((53 : Int) - (roundDiv .halfUp 53 2 * 2 : Nat)).natAbs = 2
    ∧ roundDiv .halfEven 53 2 ≠ roundDiv .halfUp 53 2 := by decide

theorem witness_SpeedByteIsMonotoneFromZeroToFull :
    1 ≤ ({ closestSep := 1 } : Config).closestSep ∧ 200 ≤ spdMaxQ { closestSep := 1 } := by decide

theorem witness_ServoTickIsMonotoneAndInRange :
    1 ≤ ({ xMax := 1 } : Config).xMax ∧ 1 ≤ ({ servoSlopeDen := 1, servoSlopeNum := 1, servoBase := 0 } : Config).servoSlopeDen
    ∧ 100 * 1 + 0 * 1 ≤ 100 * 1 ∧ 200 ≤ rotMaxQ { xMax := 1 } := by decide

theorem witness_SpeedLawHasItsThreeRegions :
    (450 < 451 ∧ Config.standard.closestSep ≤ 450) ∧ (338 < Config.standard.closestSep ∧ 3 * Config.standard.closestSep ≤ 4 * 338)
    ∧ 4 * 337 < 3 * Config.standard.closestSep ∧ Config.standard.closestSep = 450 := by decide

theorem witness_SpeedLawNeverIncreases :
    4 * 3 = 3 * ({ closestSep := 4 } : Config).closestSep ∧ 4 ≤ ({ closestSep := 4 } : Config).closestSep := by decide

theorem witness_AmbiguousPairIsFirstGreatestAndFirstLeast :
    ∀ q ∈ [pt 2 50, pt 3 50], q.y = (pt 1 50).y := by decide

theorem witness_SetdirWritesDirAndNeutralStops :
    Direction.forward ≠ .neutral ∧ 1 ≤ State.reset.cfg.closestSep := by decide

theorem witness_IncRampsUpAndSaturates :
    State.reset.cfg.closestSep ≤ 4095 ∧ State.reset.dir = .neutral ∧ (driving .backward 90000).dir ≠ .neutral := by decide

theorem witness_DecRampsDownAndKeepsDir :
    State.reset.dir = .neutral ∧ (driving .forward 0).dir ≠ .neutral := by decide

theorem witness_SnapspdSetsExactlyOrIsIgnored :
    (1 ≤ (driving .forward 0).cfg.closestSep ∧ (driving .forward 0).cfg.closestSep ≤ 4095)
    ∧ (State.reset.dir = .neutral ∧ (-1 : Int) < 0 ∧ (100 : Int) < 101)
    ∧ ((driving .forward 0).dir ≠ .neutral ∧ (0 : Int) ≤ 100 ∧ (100 : Int) ≤ 100) := by decide

theorem witness_RotrMovesDownOrIsIgnored :
    (65535 ≤ 65535 ∧ (1 : Nat) = (if 0 = 0 then 1 else 0)) ∧ (turned 1999).rotQ.toNat < 1 * rotDen (turned 1999).cfg
    ∧ 1 * rotDen (turned 2000).cfg ≤ (turned 2000).rotQ.toNat := by decide

theorem witness_RotlMovesUpOrIsIgnored :
    (1 ≤ State.reset.cfg.xMax ∧ State.reset.cfg.xMax ≤ 4095) ∧ (101 : Nat) = (if 101 = 0 then 1 else 101)
    ∧ rotMaxQ State.reset.cfg < (turned 198001).rotQ.toNat + 1 * rotDen State.reset.cfg
    ∧ (turned 198000).rotQ.toNat + 1 * rotDen State.reset.cfg ≤ rotMaxQ State.reset.cfg ∧ 100 < 101 := by decide

theorem witness_SnaprotSetsExactlyOrIsIgnored :
    (1 ≤ State.reset.cfg.xMax ∧ State.reset.cfg.xMax ≤ 4095) ∧ (-1 : Int) < 0 ∧ (100 : Int) < 101
    ∧ ((0 : Int) ≤ 0 ∧ (100 : Int) ≤ 100) := by decide

theorem witness_TurnoffIsTheFailSafe : 1 ≤ ({ State.reset with cfg := { closestSep := 1 } } : State).cfg.closestSep := by
  decide

theorem witness_TurnoffLeavesTheDriversAtRest :
    1 ≤ State.reset.cfg.closestSep ∧ (∃ t, exec .turnoff State.reset = .next t)
    ∧ (State.reset.cfg.pwmAttached = true ∧ 15 < State.reset.cfg.pwmChannels)
    ∧ ({ pwmAttached := false } : Config).pwmAttached = false :=
  ⟨by decide, ⟨_, rfl⟩, by decide, rfl⟩

theorem witness_BslotLoadsOneSlot : (3 : Fin 4) ≠ 0 := by decide

theorem witness_TrackWithoutTargetOnlyReleases : ∀ i : Fin 4, (State.reset.frame.get i).v = false := by decide

theorem witness_TrackSingleTargetUsesTheMemory :
    ((framed .forward (pt 1001 0) Slot.absent).cfg.closestSep ≤ 4095 ∧ (framed .forward (pt 1001 0) Slot.absent).cfg.xMax ≤ 4095)
    ∧ ((framed .forward (pt 1001 0) Slot.absent).frame.get 0).v = true
    ∧ (∀ j : Fin 4, j ≠ 0 → ((framed .forward (pt 1001 0) Slot.absent).frame.get j).v = false) := by decide

theorem witness_TrackPairSteersAndRemembers :
    TrackedPair (framed .forward (pt 100 0) (pt 300 50)).frame (pt 100 0) (pt 300 50)
    ∧ TrackedPair ⟨pt 100 4000, pt 900 0, pt 500 4000, Slot.absent⟩ (pt 100 4000) (pt 900 0)
    ∧ 50 = (((pt 100 0).y.toNat : Int) - (pt 300 50).y.toNat).natAbs :=
  ⟨.inl (by decide), .inr ⟨by decide, ⟨0, by decide, by decide, by simp⟩, ⟨1, by decide, by decide, by
    intro j hj p hp
    obtain rfl : j = 0 := by omega
    obtain rfl : pt 100 4000 = p := by simpa [validPoints, Frame.slots, pt] using hp
    decide⟩⟩, by decide⟩

theorem witness_ManualFromNeutralOnlySelectsDirection :
    State.reset.dir = .neutral ∧ (keys 0x11).up ≠ (keys 0x11).down
    ∧ ∃ t, exec (.manual (keys 0x11)) State.reset = .next t :=
  ⟨by decide, by decide, ⟨_, rfl⟩⟩

theorem witness_ManualZeroCrossingReverses :
    (driving .forward 4500).cfg.closestSep ≤ 4095 ∧ (keys 0x02).up ≠ (keys 0x02).down
    ∧ (driving .forward 4500).dir ≠ .neutral ∧ ((keys 0x02).down = true ∧ (driving .forward 4500).dir = .forward)
    ∧ ((keys 0x01).up = true ∧ (driving .backward 4501).dir = .backward)
    ∧ ∃ t, exec (.manual (keys 0x02)) (driving .forward 4500) = .next t :=
  ⟨by decide, by decide, by decide, by decide, by decide, ⟨_, rfl⟩⟩

theorem witness_ManualSteersByOnePercent :
    (turned 1999).cfg.xMax ≤ 4095 ∧ ((keys 0x04).left = true ∧ (keys 0x04).right = false)
    ∧ ((keys 0x08).right = true ∧ (keys 0x08).left = false) ∧ (keys 0x0C).left = (keys 0x0C).right
    ∧ ∃ t, exec (.manual (keys 0x04)) (turned 1999) = .next t :=
  ⟨by decide, by decide, by decide, by decide, ⟨_, rfl⟩⟩

theorem witness_NopDoesNothingAndSetmodeWritesMode : decode 0 = .ok .nop := by decide

theorem witness_CycleExitIsTheEmergencyStop : (keys 0xFF).exit = true := by decide

theorem witness_CycleDispatchesToOneController :
    (keys 0x91).exit = false
    ∧ ((keys 0x91).modeManual = true → (keys 0x91).modeTrack = false → Mode.track = .manual)
    ∧ ((keys 0x91).modeTrack = true → (keys 0x91).modeManual = false → Mode.track = .track)
    ∧ ((keys 0x91).modeManual = (keys 0x91).modeTrack → Mode.track = State.reset.mode) := by decide

theorem witness_EveryStepKeepsTheInvariants :
    LegalConfig (offered (.command 0x18000000) (driving .forward 4500))
    ∧ Invariants (offered (.command 0x18000000) (driving .forward 4500))
    ∧ ∃ t, step (offered (.command 0x18000000) (driving .forward 4500)) = .next t :=
  ⟨standard_legal, by decide, ⟨_, rfl⟩⟩

theorem witness_EveryStepKeepsEventsInRange :
    LegalConfig (offered (.command 0x10000000) (driving .forward 90000))
    ∧ Invariants (offered (.command 0x10000000) (driving .forward 90000))
    ∧ EventsInRange (offered (.command 0x10000000) (driving .forward 90000))
    ∧ ∃ t, step (offered (.command 0x10000000) (driving .forward 90000)) = .next t :=
  ⟨standard_legal, by decide, by decide, ⟨_, rfl⟩⟩

/-- A reset state that has already enabled its motors, offered a TURNOFF. -/
def enabledOfferedTurnoff : State :=
  { offered (.command 0x50000000) State.reset with events := [.run .m1 .forward, .run .m2 .forward] }

theorem witness_EveryStepKeepsTheMotorsPaired :
    MotorsPaired enabledOfferedTurnoff ∧ ∃ t, step enabledOfferedTurnoff = .next t :=
  ⟨by decide, ⟨_, rfl⟩⟩

theorem witness_EveryStepKeepsAbsentSlotsZero :
    AbsentSlotsAreZero (offered (.command 0x8A064032) (framed .forward (pt 100 0) (pt 300 50)))
    ∧ ∃ t, step (offered (.command 0x8A064032) (framed .forward (pt 100 0) (pt 300 50))) = .next t :=
  ⟨by decide, ⟨_, rfl⟩⟩

theorem witness_EveryStepKeepsTheDriversInAgreement :
    LegalConfig (offered (.command 0x50000000) State.reset)
    ∧ SpeedIsApplied (offered (.command 0x50000000) State.reset)
    ∧ RotationIsApplied (offered (.command 0x50000000) State.reset)
    ∧ ∃ t, step (offered (.command 0x50000000) State.reset) = .next t :=
  ⟨standard_legal, fun m => by cases m <;> exact .inl rfl, .inl rfl, ⟨_, rfl⟩⟩

theorem witness_IllIsSetByIllegalWordsOnly : ∃ t, step (offered (.command 0x00000001) State.reset) = .next t := ⟨_, rfl⟩

theorem witness_HaltedIsSetByExitAndClearedByReset :
    (∃ t, step (offered (.command 0xB0000020) State.reset) = .next t ∧ State.reset.halted = false ∧ t.halted = true)
    ∧ ∃ t, step (offered .reset stopped) = .next t ∧ stopped.halted = true ∧ t.halted = false :=
  ⟨⟨_, rfl, rfl, rfl⟩, ⟨_, rfl, rfl, rfl⟩⟩

theorem witness_HaltedBlockKeepsItsRegisters :
    (offered (.command 0x50000000) stopped).halted = true
    ∧ (∀ rest, (offered (.command 0x50000000) stopped).inbox ≠ .reset :: rest)
    ∧ ∃ t, step (offered (.command 0x50000000) stopped) = .next t :=
  ⟨rfl, by simp [offered], ⟨_, rfl⟩⟩

theorem witness_RegistersChangeOnlyByTheirWriters :
    ∃ t, exec .track (framed .forward (pt 100 0) (pt 300 50)) = .next t ∧ t.trkMem ≠ State.reset.trkMem
      ∧ t.rotQ ≠ State.reset.rotQ ∧ t.speedQ ≠ State.reset.speedQ := by
  refine ⟨_, rfl, ?_, ?_, ?_⟩ <;> decide

theorem witness_EventsAreOnlyAppended :
    (∃ t, step (offered (.read 0) State.reset) = .next t)
    ∧ (∀ rest, (offered (.read 0) State.reset).inbox ≠ .reset :: rest)
    ∧ ∀ w rest, (offered (.read 0) State.reset).inbox ≠ .command w :: rest :=
  ⟨⟨_, rfl⟩, by simp [offered], by simp [offered]⟩

theorem witness_DirectionAndSpeedChangesRunNoMotor :
    Instr.inc ≠ .enable ∧ Instr.inc ≠ .disable ∧ Instr.inc ≠ .turnoff ∧ Instr.inc ≠ .track
    ∧ (∀ k, Instr.inc ≠ .manual k) ∧ (∀ k, Instr.inc ≠ .cycle k) ∧ ∃ t, exec .inc (driving .forward 0) = .next t :=
  ⟨by decide, by decide, by decide, by decide, by simp, by simp, ⟨_, rfl⟩⟩

end Sys2Proof.Tests
end

section
/-! PROOFS. ILL is written by illegal words and by reset only (10_state.md R29). -/

namespace Sys2Proof

/-! ### The decoder refuses exactly the illegal words (30_encoding.md R88) -/

/-- The mask of the `len` bits from bit `lo` up finds a 1 in a word exactly when that field of the word is not 0. -/
theorem and_fieldMask_ne_zero_iff (w : Word) (lo len : Nat) :
    w &&& ((BitVec.allOnes len).setWidth 32 <<< lo) ≠ 0 ↔ field w lo len ≠ 0 := by
  refine not_congr ⟨fun h => ?_, fun h => ?_⟩
  · ext i hi
    have hbit := congrArg (·.getLsbD (lo + i)) h
    by_cases hw : lo + i < 32
    · simpa [field, hi, hw, show i < 32 by omega] using hbit
    · simp [field, BitVec.getLsbD_of_ge w (lo + i) (by omega)]
  · ext i hi
    have hbit := congrArg (·.getLsbD (i - lo)) h
    by_cases hin : lo ≤ i ∧ i - lo < len
    · have hw : w[i] = false := by simpa [field, hin, hi, Nat.add_sub_cancel' hin.1] using hbit
      simp [hw]
    · have hmask : lo ≤ i → len ≤ i - lo := by omega
      simpa using fun _ => hmask

theorem directionOfCode_eq_none_iff (c : BitVec 2) : directionOfCode c = none ↔ c = 3 := by
  revert c; decide

/-- The direction code 0b11 as R88(c) writes it. -/
theorem field_low_two_eq_three_iff (w : Word) : field w 0 2 = 3 ↔ w &&& 3 = 3 := by
  rw [← BitVec.toNat_inj, ← BitVec.toNat_inj, field_toNat, BitVec.toNat_and]
  have hmod : w.toNat &&& 3 = w.toNat % 4 := Nat.and_two_pow_sub_one_eq_mod w.toNat 2
  simp [hmod]

/-- The reserved bits of a format are what refuses a word of it (R88(b)). -/
theorem reservedZero_error_iff (w : Word) (lo len : Nat) (i : Instr) :
    (∃ e, reservedZero w lo len i = .error e) ↔ w &&& ((BitVec.allOnes len).setWidth 32 <<< lo) ≠ 0 := by
  rw [and_fieldMask_ne_zero_iff, reservedZero]
  split <;> simp_all

theorem decodeN_error_iff (w : Word) (i : Instr) :
    (∃ e, decodeN w i = .error e) ↔ w &&& reservedMask .N ≠ 0 := reservedZero_error_iff w 0 27 i

theorem decodeS_error_iff (w : Word) (f : Int → Instr) :
    (∃ e, decodeS w f = .error e) ↔ w &&& reservedMask .S ≠ 0 := reservedZero_error_iff w 16 11 _

theorem decodeU_error_iff (w : Word) (f : Nat → Instr) :
    (∃ e, decodeU w f = .error e) ↔ w &&& reservedMask .U ≠ 0 := reservedZero_error_iff w 16 11 _

theorem decodeB_error_iff (w : Word) : (∃ e, decodeB w = .error e) ↔ w &&& reservedMask .B ≠ 0 := by
  simp [decodeB, reservedMask]

theorem decodeK_error_iff (w : Word) (f : Keys → Instr) :
    (∃ e, decodeK w f = .error e) ↔ w &&& reservedMask .K ≠ 0 := reservedZero_error_iff w 8 19 _

theorem decodeM_error_iff (w : Word) (f : Mode → Instr) :
    (∃ e, decodeM w f = .error e) ↔ w &&& reservedMask .M ≠ 0 := reservedZero_error_iff w 1 26 _

/-- Format D refuses for its reserved bits or for the code 0b11 (R88(b), (c)). -/
theorem decodeD_error_iff (w : Word) (f : Direction → Instr) :
    (∃ e, decodeD w f = .error e) ↔ w &&& reservedMask .D ≠ 0 ∨ w &&& 3 = 3 := by
  rw [← field_low_two_eq_three_iff, ← directionOfCode_eq_none_iff]
  cases hdir : directionOfCode (field w 0 2) with
  | none => simp [decodeD, hdir]
  | some d =>
    have hbits : (∃ e, reservedZero w 2 25 (f d) = .error e) ↔ w &&& reservedMask .D ≠ 0 :=
      reservedZero_error_iff w 2 25 (f d)
    simpa [decodeD, hdir] using hbits

/-- R89 gives each opcode one format. -/
theorem opcodeFormats_format_unique :
    ∀ r ∈ opcodeFormats, ∀ r' ∈ opcodeFormats, r.1 = r'.1 → r.2 = r'.2 := by decide

/-- The opcodes of the rows of R89, as numbers. -/
theorem opcodeFormats_opcode_range :
    ∀ r ∈ opcodeFormats, r.1.toNat ≤ 0x0A ∨ (0x10 ≤ r.1.toNat ∧ r.1.toNat ≤ 0x12)
      ∨ (0x14 ≤ r.1.toNat ∧ r.1.toNat ≤ 0x16) := by decide

/-- R88 for a word whose opcode is a row of R89: condition (a) cannot hold, and (b) is about that row's format. -/
theorem illegalWord_iff_of_opcode {w : Word} {n : Nat} {f : Format} (hop : (opcode w).toNat = n)
    (hrow : (BitVec.ofNat 5 n, f) ∈ opcodeFormats) :
    IllegalWord w ↔ w &&& reservedMask f ≠ 0 ∨ (n = 1 ∧ w &&& 3 = 3) := by
  have hcode : opcode w = BitVec.ofNat 5 n := by simp [← hop]
  have hsetdir : opcode w = 0b00001 ↔ n = 1 := by rw [← BitVec.toNat_inj, hop]; rfl
  rw [IllegalWord, hsetdir]
  constructor
  · rintro (hnone | ⟨r, hr, heq, hbits⟩ | hdir)
    · exact absurd hcode.symm (hnone _ hrow)
    · rw [opcodeFormats_format_unique r hr _ hrow (heq.trans hcode)] at hbits
      exact .inl hbits
    · exact .inr hdir
  · rintro (hbits | hdir)
    · exact .inr (.inl ⟨_, hrow, hcode.symm, hbits⟩)
    · exact .inr (.inr hdir)

/-- A row but SETDIR's refuses a word for its reserved bits only. -/
theorem error_iff_illegalWord_of_opcode {w : Word} {n : Nat} {f : Format} {d : Except DecodeError Instr}
    (hop : (opcode w).toNat = n) (hrow : (BitVec.ofNat 5 n, f) ∈ opcodeFormats) (hn : n ≠ 1)
    (hd : (∃ e, d = .error e) ↔ w &&& reservedMask f ≠ 0) : (∃ e, d = .error e) ↔ IllegalWord w := by
  rw [hd, illegalWord_iff_of_opcode hop hrow]
  simp [hn]

/-- The decoder refuses exactly the words that R88 calls illegal. -/
theorem decode_error_iff_illegalWord (w : Word) : (∃ e, decode w = .error e) ↔ IllegalWord w := by
  unfold decode
  split
  case h_2 hop => rw [decodeD_error_iff, illegalWord_iff_of_opcode hop (f := .D) (by decide)]; simp
  case h_5 hop | h_8 hop =>
    exact error_iff_illegalWord_of_opcode hop (by decide) (by decide) (decodeS_error_iff w _)
  case h_6 hop | h_7 hop =>
    exact error_iff_illegalWord_of_opcode hop (by decide) (by decide) (decodeU_error_iff w _)
  case h_13 hop => exact error_iff_illegalWord_of_opcode hop (by decide) (by decide) (decodeB_error_iff w)
  case h_15 hop | h_17 hop =>
    exact error_iff_illegalWord_of_opcode hop (by decide) (by decide) (decodeK_error_iff w _)
  case h_16 hop => exact error_iff_illegalWord_of_opcode hop (by decide) (by decide) (decodeM_error_iff w _)
  case h_1 hop | h_3 hop | h_4 hop | h_9 hop | h_10 hop | h_11 hop | h_12 hop | h_14 hop =>
    exact error_iff_illegalWord_of_opcode hop (by decide) (by decide) (decodeN_error_iff w _)
  case h_18 =>
    have hnone : ∀ r ∈ opcodeFormats, r.1 ≠ opcode w := by
      rintro r hr heq
      have hrange := opcodeFormats_opcode_range r hr
      rw [heq] at hrange
      grind
    exact iff_of_true ⟨_, rfl⟩ (.inl hnone)

theorem not_illegalWord_of_decode_ok {w : Word} {i : Instr} (h : decode w = .ok i) : ¬ IllegalWord w := by
  rw [← decode_error_iff_illegalWord, h]
  simp

end Sys2Proof

namespace Sys2Proof.Machine

/-! ### No command writes ILL -/

@[simp] theorem flipAtZero_ill (d : Direction) (s : State) : (flipAtZero d s).ill = s.ill := by
  unfold flipAtZero; split <;> simp

@[simp] theorem upKey_ill (s : State) : (upKey s).ill = s.ill := by
  unfold upKey; split <;> simp

@[simp] theorem downKey_ill (s : State) : (downKey s).ill = s.ill := by
  unfold downKey; split <;> simp

@[simp] theorem driveStep_ill (k : Keys) (s : State) : (driveStep k s).ill = s.ill := by
  unfold driveStep; dsimp only; split <;> split <;> simp

@[simp] theorem steerStep_ill (k : Keys) (s : State) : (steerStep k s).ill = s.ill := by
  unfold steerStep; dsimp only; split <;> split <;> simp

@[simp] theorem holdGate_ill (k : Keys) (s : State) : (holdGate k s).ill = s.ill := by
  unfold holdGate; split <;> simp

@[simp] theorem manualCycle_ill (k : Keys) (s : State) : (manualCycle k s).ill = s.ill := by simp [manualCycle]

@[simp] theorem trackNone_ill (s : State) : (trackNone s).ill = s.ill := by simp [trackNone]

@[simp] theorem trackSingle_ill (a : Slot) (s : State) : (trackSingle a s).ill = s.ill := by simp [trackSingle]

@[simp] theorem trackPair_ill (a b : Slot) (s : State) : (trackPair a b s).ill = s.ill := by simp [trackPair]

@[simp] theorem trackCycle_ill (s : State) : (trackCycle s).ill = s.ill := by
  unfold trackCycle; split <;> simp

@[simp] theorem dispatchController_ill (k : Keys) (s : State) : (dispatchController k s).ill = s.ill := by
  unfold dispatchController; split <;> simp

@[simp] theorem supervisorCycle_ill (k : Keys) (s : State) : (supervisorCycle k s).ill = s.ill := by
  unfold supervisorCycle; split <;> simp [emergencyStop]

/-- The rule of a command leaves ILL as it is: the word that ran was legal (R29). -/
theorem exec_ill {i : Instr} {s t : State} (h : exec i s = .next t) : t.ill = s.ill := by
  cases i <;> (cases h; simp)

end Sys2Proof.Machine

namespace Sys2Proof.Proofs

open Sys2Proof.Machine

/-- Settles O55, by the cases of a step: an illegal word raises ILL, reset clears it, and every other step keeps it. -/
theorem illIsSetByIllegalWordsOnly : Obligations.IllIsSetByIllegalWordsOnly := by
  unfold Obligations.IllIsSetByIllegalWordsOnly
  refine ⟨fun _ => rfl, fun s t h => ?_⟩
  rcases step_cases s t h with ⟨hin, rfl⟩ | ⟨w, rest, e, hin, hdec, rfl⟩ | ⟨w, rest, i, hin, hdec, -, rfl⟩
    | ⟨w, rest, i, hin, hdec, -, hrun⟩ | ⟨a, rest, hin, rfl⟩ | ⟨rest, hin, rfl⟩
  · simp [hin]
  · have hillegal : IllegalWord w := (decode_error_iff_illegalWord w).1 ⟨e, hdec⟩
    exact iff_of_true rfl (.inl ⟨w, rest, hin, hillegal⟩)
  · have hlegal : ¬ IllegalWord w := not_illegalWord_of_decode_ok hdec
    simp [hin, hlegal]
  · have hlegal : ¬ IllegalWord w := not_illegalWord_of_decode_ok hdec
    have hkept : t.ill = s.ill := by simpa using exec_ill hrun
    simp [hin, hlegal, hkept]
  · simp [hin, serveRead]
  · simp [hin, applyReset, State.resetWith]

end Sys2Proof.Proofs
end

section
/-! PROOFS. The register read port: what each address returns, as a word and as a number (20_memory.md R61), and that
a read changes nothing but the list of returned words (R62). -/

namespace Sys2Proof.Machine

/-! ### The word of each address (20_memory.md R61) -/

@[simp] theorem readPort_id (s : State) : readPort s 0x00 = 0x4A430001 := rfl
@[simp] theorem readPort_status (s : State) : readPort s 0x01 = statusWord s := rfl
@[simp] theorem readPort_dir (s : State) : readPort s 0x02 = s.dir.code.setWidth 32 := rfl
@[simp] theorem readPort_mode (s : State) : readPort s 0x03 = s.mode.code.setWidth 32 := rfl
@[simp] theorem readPort_speedQ (s : State) : readPort s 0x04 = s.speedQ.setWidth 32 := rfl
@[simp] theorem readPort_rotQ (s : State) : readPort s 0x05 = s.rotQ.setWidth 32 := rfl
@[simp] theorem readPort_trkMem (s : State) : readPort s 0x06 = s.trkMem.setWidth 32 := rfl
@[simp] theorem readPort_xMax (s : State) : readPort s 0x10 = (BitVec.ofNat 12 s.cfg.xMax).setWidth 32 := rfl
@[simp] theorem readPort_closestSep (s : State) :
    readPort s 0x11 = (BitVec.ofNat 12 s.cfg.closestSep).setWidth 32 := rfl
@[simp] theorem readPort_servoCh (s : State) : readPort s 0x12 = (BitVec.ofNat 8 s.cfg.servoCh).setWidth 32 := rfl
@[simp] theorem readPort_pwm (s : State) : readPort s 0x13 = pwmWord s.cfg := rfl

/-- The four frame addresses are 0x08 + i. -/
theorem readPort_slot (s : State) (i : Fin 4) :
    readPort s (BitVec.ofNat 8 (8 + i.val)) = slotWord (s.frame.get i) := by
  match i with
  | 0 | 1 | 2 | 3 => rfl

/-- The reserved addresses are those that no row of the map lists, so the read falls through to 0. -/
theorem readPort_reserved (s : State) (a : ReadAddr)
    (ha : a.toNat = 7 ∨ (12 ≤ a.toNat ∧ a.toNat ≤ 15) ∨ 20 ≤ a.toNat) : readPort s a = 0 := by
  unfold readPort
  split
  case h_16 => rfl
  all_goals omega

/-! ### The words of more than one field, as numbers -/

theorem statusWord_toNat (s : State) : (statusWord s).toNat = s.halted.toNat + 2 * s.ill.toNat := by
  show @BitVec.toNat (30 + 1 + 1) ((0 : BitVec 30) ++ BitVec.ofBool s.ill ++ BitVec.ofBool s.halted) = _
  rw [append_toNat, append_toNat, BitVec.toNat_ofBool, BitVec.toNat_ofBool, show (0 : BitVec 30).toNat = 0 from rfl]
  omega

theorem slotWord_toNat (t : Slot) :
    (slotWord t).toNat = t.v.toNat * 2 ^ 24 + t.x.toNat * 2 ^ 12 + t.y.toNat := by
  show @BitVec.toNat (7 + 1 + 12 + 12) ((0 : BitVec 7) ++ BitVec.ofBool t.v ++ t.x ++ t.y) = _
  rw [append_toNat, append_toNat, append_toNat, BitVec.toNat_ofBool, show (0 : BitVec 7).toNat = 0 from rfl]
  omega

theorem pwmWord_toNat (c : Config) :
    (pwmWord c).toNat = c.pwmChannels % 2 ^ 8 + 2 ^ 8 * c.pwmAttached.toNat := by
  show @BitVec.toNat (23 + 1 + 8) ((0 : BitVec 23) ++ BitVec.ofBool c.pwmAttached ++ BitVec.ofNat 8 c.pwmChannels) = _
  rw [append_toNat, append_toNat, BitVec.toNat_ofBool, BitVec.toNat_ofNat, show (0 : BitVec 23).toNat = 0 from rfl]
  omega

/-! ### A step that takes a read (20_memory.md R62) -/

theorem step_of_read {s : State} {a : ReadAddr} {rest : List HostInput} (hin : s.inbox = .read a :: rest) :
    step s = .next (serveRead a (setInbox rest s)) := by
  simp only [step, takeInput, hin]

/-- What waits on the ports is not part of what a read returns. -/
@[simp] theorem readPort_setInbox (l : List HostInput) (s : State) (a : ReadAddr) :
    readPort (setInbox l s) a = readPort s a := rfl

end Sys2Proof.Machine

namespace Sys2Proof.Proofs

open Sys2Proof.Machine

/-- Settles O11: serving a read appends to the returned words and touches no other field. -/
theorem readHasNoSideEffect : Obligations.ReadHasNoSideEffect := by
  unfold Obligations.ReadHasNoSideEffect
  refine ⟨fun s a rest hin => ?_, readPort_reserved⟩
  rw [step_of_read hin, serveRead, readPort_setInbox]
  rfl

/-- Settles O12, address by address: each word is its register, or its fields joined, read as a number. -/
theorem readPortShowsTheRegisters : Obligations.ReadPortShowsTheRegisters := by
  unfold Obligations.ReadPortShowsTheRegisters
  intro s
  refine ⟨readPort_id s, ?status, ?dir, ?mode, ?speedQ, ?rotQ, ?trkMem, ?frame, ?xMax, ?closestSep, ?servoCh, ?pwm,
    readPort_reserved s⟩
  case status => rw [readPort_status, statusWord_toNat]
  case dir => rw [readPort_dir]; cases s.dir <;> rfl
  case mode => rw [readPort_mode]; cases s.mode <;> rfl
  case speedQ => rw [readPort_speedQ, BitVec.toNat_setWidth_of_le (by decide)]
  case rotQ => rw [readPort_rotQ, BitVec.toNat_setWidth_of_le (by decide)]
  case trkMem => rw [readPort_trkMem, BitVec.toNat_setWidth_of_le (by decide)]
  case frame => intro i; rw [readPort_slot, slotWord_toNat]
  case xMax => rw [readPort_xMax, BitVec.toNat_setWidth_of_le (by decide), BitVec.toNat_ofNat]
  case closestSep => rw [readPort_closestSep, BitVec.toNat_setWidth_of_le (by decide), BitVec.toNat_ofNat]
  case servoCh => rw [readPort_servoCh, BitVec.toNat_setWidth_of_le (by decide), BitVec.toNat_ofNat]
  case pwm => rw [readPort_pwm, pwmWord_toNat]

end Sys2Proof.Proofs
end

section
/-! PROOFS. The pseudo-instructions of the assembler (30_encoding.md R93), and the one effect of an illegal word
(R88). -/

namespace Sys2Proof.Machine

/-! ### The expansion of FRAME (30_encoding.md R93) -/

/-- Points that fit in the slots from `k` up each become a BSLOT, the point at position `j` for slot `k + j`. -/
theorem frameSlots_eq_some_of_fit {k : Nat} {ps : List (BitVec 12 × BitVec 12)} (hfit : k + ps.length ≤ 4) :
    ∃ l, frameSlots k ps = some l ∧ l.length = ps.length
      ∧ ∀ (slot : Fin 4) (j : Nat) (x y : BitVec 12), slot.val = k + j → ps[j]? = some (x, y) →
          l[j]? = some (.bslot slot true x y) := by
  induction ps generalizing k with
  | nil => exact ⟨[], rfl, rfl, by simp⟩
  | cons p more ih =>
    obtain ⟨x, y⟩ := p
    rw [List.length_cons] at hfit
    have hk : k < 4 := by omega
    obtain ⟨l, hl, hlen, hslots⟩ := ih (k := k + 1) (by omega)
    refine ⟨.bslot ⟨k, hk⟩ true x y :: l, by simp [frameSlots, hk, hl], by simp [hlen], ?_⟩
    intro slot j x' y' hslot hpoint
    cases j with
    | zero =>
      obtain rfl : slot = ⟨k, hk⟩ := Fin.ext hslot
      obtain ⟨rfl, rfl⟩ : x = x' ∧ y = y' := by simpa using hpoint
      rfl
    | succ j => exact hslots slot j x' y' (by omega) hpoint

/-- A speed snap to any value is ignored while NEUTRAL (40_actuator.md R123). -/
theorem snapSpeedQ_of_neutral {s : State} (hdir : s.dir = .neutral) (q : Int) : snapSpeedQ q s = s := by
  obtain ⟨-, hsame⟩ | ⟨hmoving, -⟩ := snapSpeedQ_cases q s
  · exact hsame
  · exact absurd hdir hmoving

/-! ### A step that takes an illegal word (30_encoding.md R88) -/

/-- The illegal check stands before the HALTED gate, so HALTED is not asked. -/
theorem step_of_illegalWord {s : State} {w : Word} {rest : List HostInput} (hin : s.inbox = .command w :: rest)
    (hw : IllegalWord w) : step s = .next (raiseIll (setInbox rest s)) := by
  obtain ⟨e, hdec⟩ := (decode_error_iff_illegalWord w).2 hw
  simp only [step, takeInput, hin, acceptCommand, hdec]

/-- ILL is bit 1 of STATUS (20_memory.md R61). -/
theorem statusWord_raiseIll (s : State) : statusWord (raiseIll s) = statusWord s ||| 2 := by
  simp only [statusWord, raiseIll_ill, raiseIll_halted]
  generalize s.ill = ill
  generalize s.halted = halted
  revert ill halted
  decide

end Sys2Proof.Machine

namespace Sys2Proof.Proofs

open Sys2Proof.Machine

/-- Settles O8: the FRAME clause by induction on the points, the STOP clause by the speed snap while NEUTRAL, and the
other expansions are entries of the table. -/
theorem pseudoInstructionsExpand : Obligations.PseudoInstructionsExpand := by
  unfold Obligations.PseudoInstructionsExpand
  refine ⟨rfl, rfl, rfl, rfl, fun ps hps => ?frame, fun s hdir => ?stop⟩
  case frame =>
    obtain ⟨l, hl, hlen, hslots⟩ := frameSlots_eq_some_of_fit (k := 0) (ps := ps) (by omega)
    exact ⟨l, by simp [expandPseudo, hl], hlen, fun k x y => hslots k k.val x y (Nat.zero_add _).symm⟩
  case stop => rw [exec_snapspd, snapSpeedQ_of_neutral hdir]

/-- Settles O10: the step raises ILL and takes the word off the port; STATUS then shows the bit. -/
theorem illegalWordOnlySetsIll : Obligations.IllegalWordOnlySetsIll := by
  unfold Obligations.IllegalWordOnlySetsIll
  intro s w rest hin hw
  refine ⟨raiseIll (setInbox rest s), step_of_illegalWord hin hw, rfl, rfl, ?status⟩
  rw [readPort_status, statusWord_raiseIll, ← readPort_status, readPort_setInbox]

end Sys2Proof.Proofs
end

section
/-! PROOFS. The two motors always receive the same (40_actuator.md R116): the pairing of the stream is kept by every
step, because everything the block emits is a motor pair or a PWM event. -/

namespace Sys2Proof.Machine

/-! ### What every command is made of

The meaning of each command is a sequence of register writes and of the four emitting operations. A predicate on states
that each of them keeps is therefore kept by every command. -/

/-- `P` is kept by every register write and every emitting operation of the commands. -/
structure KeptByWrites (P : State → Prop) : Prop where
  setDir : ∀ d s, P s → P (setDir d s)
  setTrkMem : ∀ sep s, P s → P (setTrkMem sep s)
  setMode : ∀ m s, P s → P (setMode m s)
  setFrame : ∀ f s, P s → P (setFrame f s)
  setHalted : ∀ s, P s → P (setHalted s)
  writeSpeed : ∀ q s, P s → P (writeSpeed q s)
  writeRot : ∀ q s, P s → P (writeRot q s)
  emitRun : ∀ sig s, P s → P (emitRun sig s)
  emitPwmZeroes : ∀ s, P s → P (emitAll (pwmZeroes s.cfg) s)

namespace KeptByWrites

variable {P : State → Prop} (kept : KeptByWrites P) {s : State} (hs : P s)
include kept hs

/-! #### Micro-operations (40_actuator.md) -/

theorem setDirection (d : Direction) : P (setDirection d s) := by
  obtain ⟨-, heq⟩ | ⟨-, heq⟩ := setDirection_cases d s <;> rw [heq]
  · exact kept.writeSpeed _ _ (kept.setDir _ _ hs)
  · exact kept.setDir _ _ hs

theorem increaseSpeed : P (increaseSpeed s) := by
  obtain ⟨-, heq⟩ | ⟨-, heq⟩ := increaseSpeed_cases s <;> rw [heq]
  · exact hs
  · exact kept.writeSpeed _ _ hs

theorem decreaseSpeed : P (decreaseSpeed s) := by
  obtain ⟨-, heq⟩ | ⟨-, heq⟩ := decreaseSpeed_cases s <;> rw [heq]
  · exact hs
  · exact kept.writeSpeed _ _ hs

theorem snapSpeedQ (q : Int) : P (snapSpeedQ q s) := by
  obtain ⟨-, heq⟩ | ⟨-, -, -, heq⟩ := snapSpeedQ_cases q s <;> rw [heq]
  · exact hs
  · exact kept.writeSpeed _ _ hs

theorem snapRotateQ (q : Int) : P (snapRotateQ q s) := by
  obtain ⟨-, heq⟩ | ⟨-, -, heq⟩ := snapRotateQ_cases q s <;> rw [heq]
  · exact hs
  · exact kept.writeRot _ _ hs

theorem rotateRight (m : Nat) : P (rotateRight m s) := by
  obtain ⟨-, heq⟩ | ⟨-, heq⟩ := rotateRight_cases m s <;> rw [heq]
  · exact hs
  · exact kept.writeRot _ _ hs

theorem rotateLeft (m : Nat) : P (rotateLeft m s) := by
  obtain ⟨-, heq⟩ | ⟨-, heq⟩ := rotateLeft_cases m s <;> rw [heq]
  · exact hs
  · exact kept.writeRot _ _ hs

theorem enableMotors : P (enableMotors s) := kept.emitRun _ _ hs

theorem disableMotors : P (disableMotors s) := kept.emitRun _ _ hs

theorem turnOff : P (turnOff s) :=
  kept.emitPwmZeroes _ (kept.writeSpeed _ _ (kept.emitRun _ _ (kept.setDir _ _ hs)))

/-! #### The three controllers (41_tracking.md, 42_manual.md, 43_supervisor.md) -/

theorem flipAtZero (d : Direction) : P (flipAtZero d s) := by
  unfold Machine.flipAtZero
  split
  · exact kept.setDirection hs d
  · exact hs

theorem upKey : P (upKey s) := by
  unfold Machine.upKey
  split
  · exact kept.setDirection hs _
  · exact kept.increaseSpeed hs
  · exact kept.flipAtZero (kept.decreaseSpeed hs) _

theorem downKey : P (downKey s) := by
  unfold Machine.downKey
  split
  · exact kept.setDirection hs _
  · exact kept.flipAtZero (kept.decreaseSpeed hs) _
  · exact kept.increaseSpeed hs

theorem driveStep (k : Keys) : P (driveStep k s) := by
  have hup : P (if upOnly k then Machine.upKey s else s) := by
    split
    · exact kept.upKey hs
    · exact hs
  unfold Machine.driveStep
  dsimp only
  split
  · exact kept.downKey hup
  · exact hup

theorem steerStep (k : Keys) : P (steerStep k s) := by
  have hleft : P (if leftOnly k then Machine.rotateRight 0 s else s) := by
    split
    · exact kept.rotateRight hs 0
    · exact hs
  unfold Machine.steerStep
  dsimp only
  split
  · exact kept.rotateLeft hleft 0
  · exact hleft

theorem holdGate (k : Keys) : P (holdGate k s) := by
  unfold Machine.holdGate
  split
  · exact kept.enableMotors hs
  · exact kept.disableMotors hs

theorem manualCycle (k : Keys) : P (manualCycle k s) :=
  kept.holdGate (kept.steerStep (kept.driveStep hs k) k) k

theorem trackSingle (a : Slot) : P (trackSingle a s) :=
  kept.enableMotors (kept.snapSpeedQ (kept.snapRotateQ hs _) _)

theorem trackPair (a b : Slot) : P (trackPair a b s) :=
  kept.enableMotors (kept.setTrkMem _ _ (kept.snapSpeedQ (kept.snapRotateQ hs _) _))

theorem trackCycle : P (trackCycle s) := by
  unfold Machine.trackCycle
  split
  · exact kept.disableMotors hs
  · exact kept.trackSingle hs _
  · exact kept.trackPair hs _ _
  · exact kept.trackPair hs _ _

theorem dispatchController (k : Keys) : P (dispatchController k s) := by
  unfold Machine.dispatchController
  split
  · exact kept.manualCycle hs k
  · exact kept.trackCycle hs

theorem supervisorCycle (k : Keys) : P (supervisorCycle k s) := by
  unfold Machine.supervisorCycle
  split
  · exact kept.setHalted _ (kept.turnOff hs)
  · exact kept.dispatchController (kept.setMode _ _ hs) k

/-- Every command keeps what the writes and the emitting operations keep. -/
theorem exec {i : Instr} {t : State} (h : exec i s = .next t) : P t := by
  cases i <;> cases h
  case nop => exact hs
  case setdir d => exact kept.setDirection hs d
  case inc => exact kept.increaseSpeed hs
  case dec => exact kept.decreaseSpeed hs
  case snapspd p => exact kept.snapSpeedQ hs _
  case rotr m => exact kept.rotateRight hs m
  case rotl m => exact kept.rotateLeft hs m
  case snaprot p => exact kept.snapRotateQ hs _
  case enable => exact kept.enableMotors hs
  case disable => exact kept.disableMotors hs
  case turnoff => exact kept.turnOff hs
  case bclr => exact kept.setFrame _ _ hs
  case bslot slot v x y => exact kept.setFrame _ _ hs
  case track => exact kept.trackCycle hs
  case manual k => exact kept.manualCycle hs k
  case setmode m => exact kept.setMode _ _ hs
  case cycle k => exact kept.supervisorCycle hs k

end KeptByWrites

end Sys2Proof.Machine

namespace Sys2Proof.Safety

open Sys2Proof.Machine

/-! ### Paired streams (40_actuator.md R116) -/

theorem exists_eq_pwm_of_not_motor {e : Event} (he : isMotorEvent e = false) : ∃ ch on off, e = .pwm ch on off := by
  cases e with
  | spd m v => cases he
  | run m sig => cases he
  | pwm ch on off => exact ⟨ch, on, off, rfl⟩

theorem motorsPaired_cons_of_not_motor {e : Event} (he : isMotorEvent e = false) (es : List Event) :
    motorsPaired (e :: es) = motorsPaired es := by
  cases es <;> simp [motorsPaired, he]

theorem motorsPaired_cons_cons_of_motor {a : Event} (ha : isMotorEvent a = true) (b : Event) (es : List Event) :
    motorsPaired (a :: b :: es) = (isSecondOf a b && motorsPaired es) := by
  simp [motorsPaired, ha]

/-- After a paired stream no motor event waits for its copy, so what follows is judged on its own. -/
theorem motorsPaired_append_of_paired {es : List Event} (h : motorsPaired es = true) (more : List Event) :
    motorsPaired (es ++ more) = motorsPaired more := by
  induction es using motorsPaired.induct with
  | case1 => rfl
  | case2 e =>
    have he : isMotorEvent e = false := by simpa [motorsPaired] using h
    exact motorsPaired_cons_of_not_motor he more
  | case3 a b rest ha ih =>
    rw [motorsPaired_cons_cons_of_motor ha, Bool.and_eq_true] at h
    obtain ⟨hab, hrest⟩ := h
    simp only [List.cons_append]
    rw [motorsPaired_cons_cons_of_motor ha, hab, Bool.true_and, ih hrest]
  | case4 a b rest ha ih =>
    rw [Bool.not_eq_true] at ha
    rw [motorsPaired_cons_of_not_motor ha] at h
    rw [List.cons_append, motorsPaired_cons_of_not_motor ha, ih h]

theorem motorsPaired_of_no_motor {es : List Event} (h : ∀ e ∈ es, isMotorEvent e = false) :
    motorsPaired es = true := by
  induction es with
  | nil => rfl
  | cons e es ih =>
    obtain ⟨he, hes⟩ := List.forall_mem_cons.1 h
    rw [motorsPaired_cons_of_not_motor he, ih hes]

@[simp] theorem motorsPaired_pwmZeroes (c : Config) : motorsPaired (pwmZeroes c) = true := by
  refine motorsPaired_of_no_motor fun e he => ?_
  unfold pwmZeroes at he
  split at he
  · obtain ⟨ch, -, rfl⟩ := List.mem_map.1 he
    rfl
  · cases he

@[simp] theorem motorsPaired_speedPair (v : Nat) : motorsPaired [.spd .m1 v, .spd .m2 v] = true := by
  simp [motorsPaired, isMotorEvent, isSecondOf]

@[simp] theorem motorsPaired_runPair (sig : RunSignal) : motorsPaired [.run .m1 sig, .run .m2 sig] = true := by
  simp [motorsPaired, isMotorEvent, isSecondOf]

theorem MotorsPaired.of_events_append {s t : State} {es : List Event} (hs : MotorsPaired s)
    (ht : t.events = s.events ++ es) (hes : motorsPaired es = true) : MotorsPaired t := by
  rw [MotorsPaired, ht, motorsPaired_append_of_paired hs, hes]

/-- The register writes emit nothing; the emitting operations emit a motor pair or PWM events only. -/
theorem motorsPaired_keptByWrites : KeptByWrites MotorsPaired where
  setDir _ _ hs := hs
  setTrkMem _ _ hs := hs
  setMode _ _ hs := hs
  setFrame _ _ hs := hs
  setHalted _ hs := hs
  writeSpeed q s hs := hs.of_events_append (by rw [writeSpeed_eq]) (motorsPaired_speedPair (spdByte s.cfg q))
  writeRot _ _ hs := hs.of_events_append (writeRot_events _ _) rfl
  emitRun sig s hs := hs.of_events_append (by rw [emitRun_eq]) (motorsPaired_runPair sig)
  emitPwmZeroes s hs := hs.of_events_append rfl (motorsPaired_pwmZeroes s.cfg)

/-! ### What the motors hold after a paired stream -/

/-- An event that brings a driver nothing leaves what it holds. -/
theorem latest_of_none {α : Type} {pick : Event → Option α} {e : Event} (he : pick e = none) (known : Option α) :
    latest pick known e = known := by
  simp [latest, he]

/-- Two drivers that take nothing from a PWM event and the same from a motor pair hold the same after a paired stream. -/
theorem foldl_latest_eq_of_motorsPaired {α : Type} {pick₁ pick₂ : Event → Option α}
    (hpwm : ∀ ch on off, pick₁ (.pwm ch on off) = none ∧ pick₂ (.pwm ch on off) = none)
    (hpair : ∀ a b, isSecondOf a b = true → ∀ known,
      latest pick₁ (latest pick₁ known a) b = latest pick₂ (latest pick₂ known a) b)
    {es : List Event} (h : motorsPaired es = true) (known : Option α) :
    es.foldl (latest pick₁) known = es.foldl (latest pick₂) known := by
  induction es using motorsPaired.induct generalizing known with
  | case1 => rfl
  | case2 e =>
    have he : isMotorEvent e = false := by simpa [motorsPaired] using h
    obtain ⟨ch, on, off, rfl⟩ := exists_eq_pwm_of_not_motor he
    obtain ⟨h₁, h₂⟩ := hpwm ch on off
    simp [latest_of_none h₁, latest_of_none h₂]
  | case3 a b rest ha ih =>
    rw [motorsPaired_cons_cons_of_motor ha, Bool.and_eq_true] at h
    obtain ⟨hab, hrest⟩ := h
    simp only [List.foldl_cons]
    rw [hpair a b hab, ih hrest]
  | case4 a b rest ha ih =>
    rw [Bool.not_eq_true] at ha
    rw [motorsPaired_cons_of_not_motor ha] at h
    obtain ⟨ch, on, off, rfl⟩ := exists_eq_pwm_of_not_motor ha
    obtain ⟨h₁, h₂⟩ := hpwm ch on off
    rw [List.foldl_cons, List.foldl_cons (f := latest pick₂), latest_of_none h₁, latest_of_none h₂, ih h]

/-- A motor pair is two speed events or two run events, of one value. -/
theorem isSecondOf_cases {a b : Event} (h : isSecondOf a b = true) :
    (∃ v, a = .spd .m1 v ∧ b = .spd .m2 v) ∨ ∃ sig, a = .run .m1 sig ∧ b = .run .m2 sig := by
  unfold isSecondOf at h
  split at h
  · rename_i v v'
    exact .inl ⟨v, rfl, by simp [of_decide_eq_true h]⟩
  · rename_i sig sig'
    exact .inr ⟨sig, rfl, by simp [of_decide_eq_true h]⟩
  · cases h

theorem motorSpeed_eq_of_motorsPaired {s : State} (h : MotorsPaired s) : motorSpeed .m1 s = motorSpeed .m2 s := by
  refine foldl_latest_eq_of_motorsPaired (fun _ _ _ => ⟨rfl, rfl⟩) (fun a b hab known => ?_) h none
  obtain ⟨v, rfl, rfl⟩ | ⟨sig, rfl, rfl⟩ := isSecondOf_cases hab <;> simp [latest, speedTo]

theorem motorRun_eq_of_motorsPaired {s : State} (h : MotorsPaired s) : motorRun .m1 s = motorRun .m2 s := by
  refine foldl_latest_eq_of_motorsPaired (fun _ _ _ => ⟨rfl, rfl⟩) (fun a b hab known => ?_) h none
  obtain ⟨v, rfl, rfl⟩ | ⟨sig, rfl, rfl⟩ := isSecondOf_cases hab <;> simp [latest, runTo]

end Sys2Proof.Safety

namespace Sys2Proof.Proofs

open Sys2Proof.Machine Sys2Proof.Safety

/-- Settles O51: a command only appends motor pairs and PWM events, the other steps but reset leave the stream, and
reset empties it; over a paired stream the two motors hold the same. -/
theorem everyStepKeepsTheMotorsPaired : Obligations.EveryStepKeepsTheMotorsPaired := by
  unfold Obligations.EveryStepKeepsTheMotorsPaired
  refine ⟨fun s t hs h => ?_, fun s hs => ⟨motorSpeed_eq_of_motorsPaired hs, motorRun_eq_of_motorsPaired hs⟩⟩
  rcases step_cases s t h with ⟨-, rfl⟩ | ⟨w, rest, e, -, -, rfl⟩ | ⟨w, rest, i, -, -, -, rfl⟩
    | ⟨w, rest, i, -, -, -, hrun⟩ | ⟨a, rest, -, rfl⟩ | ⟨rest, -, rfl⟩
  · exact hs
  · exact hs
  · exact hs
  · have htaken : MotorsPaired (setInbox rest s) := hs
    exact motorsPaired_keptByWrites.exec htaken hrun
  · exact hs
  · rfl

end Sys2Proof.Proofs
end

section
/-! PROOFS. The ActuatorState commands, each as its whole effect (40_actuator.md R120 to R130). -/

namespace Sys2Proof.Machine

open Sys2Proof.Safety

/-! ### The register writers as next states (40_actuator.md R113, R114) -/

theorem spdDen_pos {c : Config} (hc : 1 ≤ c.closestSep) : 1 ≤ spdDen c := by
  unfold spdDen
  omega

theorem rotDen_pos {c : Config} (hx : 1 ≤ c.xMax) : 1 ≤ rotDen c := by
  unfold rotDen
  omega

/-- SPEED_Q holds every speed of a block with a legal CLOSEST_SEP (10_state.md R22). -/
theorem spdMaxQ_lt {c : Config} (hc : c.closestSep ≤ 4095) : spdMaxQ c < 2 ^ 20 := by
  unfold spdMaxQ spdDen
  omega

/-- ROT_Q holds every rotation of a block with a legal X_MAX (10_state.md R23). -/
theorem rotMaxQ_lt {c : Config} (hx : c.xMax ≤ 4095) : rotMaxQ c < 2 ^ 20 := by
  unfold rotMaxQ rotDen
  omega

/-- A command that ends in a speed write of a value the register can hold leaves exactly that value and its two SPD
events. -/
theorem exists_next_of_writeSpeed {o : Host.Outcome State Fault Refusal} {q : Nat} {s : State}
    (ho : o = .next (writeSpeed q s)) (hq : q < 2 ^ 20) :
    ∃ t, o = .next t ∧ t.speedQ.toNat = q
      ∧ t = { s with speedQ := t.speedQ, events := s.events ++ speedEvents s.cfg t.speedQ.toNat } := by
  have hval : (writeSpeed q s).speedQ.toNat = q := by simpa using Nat.mod_eq_of_lt hq
  refine ⟨writeSpeed q s, ho, hval, ?_⟩
  rw [hval, writeSpeed_eq]
  rfl

/-- A command that ends in a rotation write of a value the register can hold leaves exactly that value and its PWM
event. -/
theorem exists_next_of_writeRot {o : Host.Outcome State Fault Refusal} {q : Nat} {s : State}
    (ho : o = .next (writeRot q s)) (hq : q < 2 ^ 20) :
    ∃ t, o = .next t ∧ t.rotQ.toNat = q
      ∧ t = { s with rotQ := t.rotQ, events := s.events ++ rotationEvents s.cfg t.rotQ.toNat } := by
  have hval : (writeRot q s).rotQ.toNat = q := by simpa using Nat.mod_eq_of_lt hq
  refine ⟨writeRot q s, ho, hval, ?_⟩
  rw [hval, writeRot_eq]
  rfl

/-! ### Operands and percentages -/

theorem encodeS_ofInt_toNat (op : BitVec 5) (p : Int) :
    (encodeS op p).toNat = op.toNat * 2 ^ 27 + (p % 65536).toNat := by
  rw [encodeS_toNat, BitVec.toNat_ofInt]
  rfl

theorem encodeU_toNat_of_le (op : BitVec 5) {m : Nat} (hm : m ≤ 65535) :
    (encodeU op m).toNat = op.toNat * 2 ^ 27 + m := by
  rw [encodeU_toNat, Nat.mod_eq_of_lt (by omega)]

/-- A percentage is out of [0,100] exactly when its scaled value is out of the register's range (R123, R127). -/
theorem scaledPercent_out_of_range_iff {d : Nat} (hd : 1 ≤ d) (p : Int) :
    (p * (d : Int) < 0 ∨ p * (d : Int) > ((100 * d : Nat) : Int)) ↔ p < 0 ∨ 100 < p := by
  have hpos : (0 : Int) < d := by omega
  have hlow : p * (d : Int) < 0 ↔ p < 0 := by simpa using mul_lt_mul_iff_left₀ (b := p) (c := 0) hpos
  have hhigh : ((100 * d : Nat) : Int) < p * (d : Int) ↔ 100 < p := by
    push_cast
    exact mul_lt_mul_iff_left₀ hpos
  rw [gt_iff_lt, hlow, hhigh]

/-! ### The commands that write speed 0 -/

/-- Speed 0 is the speed value 0 in both rounding modes (R111). -/
theorem spdByte_zero {c : Config} (hc : 1 ≤ c.closestSep) : spdByte c 0 = 0 := by
  have hden : 0 < 100 * spdDen c := Nat.mul_pos (by decide) (spdDen_pos hc)
  simp [spdByte, roundDiv, hden]

/-- SETDIR NEUTRAL forces the speed to 0 (R120). -/
theorem setDirection_neutral_eq {s : State} (hc : 1 ≤ s.cfg.closestSep) :
    setDirection .neutral s
      = { s with dir := .neutral, speedQ := 0, events := s.events ++ [.spd .m1 0, .spd .m2 0] } := by
  obtain ⟨-, heq⟩ | ⟨hmoving, -⟩ := setDirection_cases .neutral s
  · rw [heq, writeSpeed_eq, setDir_cfg, spdByte_zero hc]
    rfl
  · exact absurd rfl hmoving

theorem setDirection_of_ne_neutral {d : Direction} (hd : d ≠ .neutral) (s : State) :
    setDirection d s = { s with dir := d } := by
  obtain ⟨hneutral, -⟩ | ⟨-, heq⟩ := setDirection_cases d s
  · exact absurd hneutral hd
  · exact heq

/-- The events of a TURNOFF (R130), as the spec lists them. -/
theorem turnOff_eq_of_closestSep_pos {s : State} (hc : 1 ≤ s.cfg.closestSep) :
    turnOff s = { s with
      dir := .neutral
      speedQ := 0
      events := s.events ++ (runEvents .release ++ [.spd .m1 0, .spd .m2 0] ++ pwmZeroes s.cfg) } := by
  rw [turnOff_eq, spdByte_zero hc, List.append_assoc]
  rfl

end Sys2Proof.Machine

namespace Sys2Proof.Proofs

open Sys2Proof.Machine Sys2Proof.Safety

/-! ### Direction and speed -/

/-- Settles O24, by the direction: NEUTRAL also writes speed 0, whose speed value is 0. -/
theorem setdirWritesDirAndNeutralStops : Obligations.SetdirWritesDirAndNeutralStops := by
  unfold Obligations.SetdirWritesDirAndNeutralStops
  refine ⟨fun s d hd => ?_, fun s hc => ?_, rfl, rfl, rfl, by decide⟩
  · rw [exec_setdir, setDirection_of_ne_neutral hd]
  · rw [exec_setdir, setDirection_neutral_eq hc]

/-- Settles O25: the saturated value fits SPEED_Q, so the register holds it exactly. -/
theorem incRampsUpAndSaturates : Obligations.IncRampsUpAndSaturates := by
  unfold Obligations.IncRampsUpAndSaturates
  refine ⟨rfl, fun s hc => ?_⟩
  rw [exec_inc]
  obtain ⟨hneutral, heq⟩ | ⟨hmoving, heq⟩ := increaseSpeed_cases s
  · exact ⟨fun _ => by rw [heq], fun hdir => absurd hneutral hdir⟩
  · have hfits : min (s.speedQ.toNat + s.cfg.step * spdDen s.cfg) (spdMaxQ s.cfg) < 2 ^ 20 :=
      (Nat.min_le_right _ _).trans_lt (spdMaxQ_lt hc)
    exact ⟨fun hdir => absurd hdir hmoving, fun _ => exists_next_of_writeSpeed (congrArg Host.Outcome.next heq) hfits⟩

/-- Settles O26: the lowered value is no greater than the one SPEED_Q held, at any parameters. -/
theorem decRampsDownAndKeepsDir : Obligations.DecRampsDownAndKeepsDir := by
  unfold Obligations.DecRampsDownAndKeepsDir
  refine ⟨rfl, fun s => ?_⟩
  rw [exec_dec]
  obtain ⟨hneutral, heq⟩ | ⟨hmoving, heq⟩ := decreaseSpeed_cases s
  · exact ⟨fun _ => by rw [heq], fun hdir => absurd hneutral hdir⟩
  · refine ⟨fun hdir => absurd hdir hmoving, fun _ => ?_⟩
    have hfits : s.speedQ.toNat - s.cfg.step * spdDen s.cfg < 2 ^ 20 :=
      (Nat.sub_le _ _).trans_lt s.speedQ.isLt
    obtain ⟨t, ht, hval, hframe⟩ := exists_next_of_writeSpeed (congrArg Host.Outcome.next heq) hfits
    refine ⟨t, ht, ?_, hframe⟩
    rw [hval, ← Nat.cast_mul]
    omega

/-- Settles O27: the scaled value is out of SPEED_Q's range exactly when the percentage is out of [0,100]. -/
theorem snapspdSetsExactlyOrIsIgnored : Obligations.SnapspdSetsExactlyOrIsIgnored := by
  unfold Obligations.SnapspdSetsExactlyOrIsIgnored
  refine ⟨fun p => encodeS_ofInt_toNat 4 p, fun s p hlow hhigh => ?_⟩
  have hrange := scaledPercent_out_of_range_iff (spdDen_pos hlow) p
  rw [exec_snapspd]
  obtain ⟨hignored, heq⟩ | ⟨hmoving, hpos, hmax, heq⟩ := snapSpeedQ_cases (p * (spdDen s.cfg : Int)) s
  · refine ⟨fun _ => by rw [heq], fun hdir h0 h100 => ?_⟩
    have hout : p < 0 ∨ 100 < p := hrange.1 (hignored.resolve_left hdir)
    omega
  · refine ⟨fun hignored => ?_, fun _ _ _ => ?_⟩
    · have hout := hrange.2 (hignored.resolve_left hmoving)
      unfold spdMaxQ at hmax
      omega
    · obtain ⟨t, ht, hval, hframe⟩ :=
        exists_next_of_writeSpeed (congrArg Host.Outcome.next heq) (hmax.trans_lt (spdMaxQ_lt hhigh))
      exact ⟨t, ht, by rw [hval, Int.toNat_of_nonneg hpos], hframe⟩

/-! ### Rotation -/

/-- Settles O28: the lowered value is no greater than the one ROT_Q held, at any parameters. -/
theorem rotrMovesDownOrIsIgnored : Obligations.RotrMovesDownOrIsIgnored := by
  unfold Obligations.RotrMovesDownOrIsIgnored
  refine ⟨fun m hm => encodeU_toNat_of_le 5 hm, fun s m n hn => ?_⟩
  obtain rfl : n = effMagnitude m := hn
  rw [exec_rotr]
  obtain ⟨hpast, heq⟩ | ⟨hroom, heq⟩ := rotateRight_cases m s
  · exact ⟨fun _ => by rw [heq], fun hroom => absurd hpast hroom.not_gt⟩
  · refine ⟨fun hpast => absurd hpast hroom.not_gt, fun _ => ?_⟩
    have hfits : s.rotQ.toNat - effMagnitude m * rotDen s.cfg < 2 ^ 20 := (Nat.sub_le _ _).trans_lt s.rotQ.isLt
    obtain ⟨t, ht, hval, hframe⟩ := exists_next_of_writeRot (congrArg Host.Outcome.next heq) hfits
    exact ⟨t, ht, by rw [hval, Nat.sub_add_cancel hroom], hframe⟩

/-- Settles O29: a magnitude above 100 moves past 100 percent from every rotation. -/
theorem rotlMovesUpOrIsIgnored : Obligations.RotlMovesUpOrIsIgnored := by
  unfold Obligations.RotlMovesUpOrIsIgnored
  refine ⟨fun m hm => encodeU_toNat_of_le 6 hm, fun s m n hlow hhigh hn => ?_⟩
  obtain rfl : n = effMagnitude m := hn
  have hlarge : 100 < effMagnitude m → rotMaxQ s.cfg < s.rotQ.toNat + effMagnitude m * rotDen s.cfg := fun h100 =>
    (Nat.mul_lt_mul_of_pos_right h100 (rotDen_pos hlow)).trans_le
      (Nat.le_add_left _ _)
  rw [exec_rotl]
  obtain ⟨hpast, heq⟩ | ⟨hroom, heq⟩ := rotateLeft_cases m s
  · exact ⟨fun _ => by rw [heq], fun _ => by rw [heq], fun hroom => absurd hpast hroom.not_gt⟩
  · exact ⟨fun hpast => absurd hpast hroom.not_gt, fun h100 => absurd (hlarge h100) hroom.not_gt,
      fun _ => exists_next_of_writeRot (congrArg Host.Outcome.next heq) (hroom.trans_lt (rotMaxQ_lt hhigh))⟩

/-- Settles O30: the scaled value is out of ROT_Q's range exactly when the percentage is out of [0,100]. -/
theorem snaprotSetsExactlyOrIsIgnored : Obligations.SnaprotSetsExactlyOrIsIgnored := by
  unfold Obligations.SnaprotSetsExactlyOrIsIgnored
  refine ⟨fun p => encodeS_ofInt_toNat 7 p, fun s p hlow hhigh => ?_⟩
  have hrange := scaledPercent_out_of_range_iff (rotDen_pos hlow) p
  rw [exec_snaprot]
  obtain ⟨hignored, heq⟩ | ⟨hpos, hmax, heq⟩ := snapRotateQ_cases (p * (rotDen s.cfg : Int)) s
  · refine ⟨fun _ => by rw [heq], fun h0 h100 => ?_⟩
    have hout : p < 0 ∨ 100 < p := hrange.1 hignored
    omega
  · refine ⟨fun hignored => ?_, fun _ _ => ?_⟩
    · have hout := hrange.2 hignored
      unfold rotMaxQ at hmax
      omega
    · obtain ⟨t, ht, hval, hframe⟩ :=
        exists_next_of_writeRot (congrArg Host.Outcome.next heq) (hmax.trans_lt (rotMaxQ_lt hhigh))
      exact ⟨t, ht, by rw [hval, Int.toNat_of_nonneg hpos], hframe⟩

/-! ### Run signals and the fail-safe -/

/-- Settles O31, by the direction for the signal that ENABLE sends. -/
theorem enableAndDisableOnlySendRunSignals : Obligations.EnableAndDisableOnlySendRunSignals := by
  unfold Obligations.EnableAndDisableOnlySendRunSignals
  refine ⟨rfl, rfl, fun s => ⟨?_, ?_⟩⟩
  · rw [exec_enable, enableMotors_eq]
    cases s.dir <;> rfl
  · rw [exec_disable, disableMotors_eq]
    rfl

/-- Settles O32: TURNOFF's events depend on the parameters alone, so a second one emits the same list. -/
theorem turnoffIsTheFailSafe : Obligations.TurnoffIsTheFailSafe := by
  unfold Obligations.TurnoffIsTheFailSafe
  refine ⟨rfl, fun s => Bool.and_false _, fun s hc => ?_⟩
  refine ⟨turnOff s, _, exec_turnoff s, rfl, turnOff_eq_of_closestSep_pos hc, ?_⟩
  rw [exec_turnoff, turnOff_eq_of_closestSep_pos (s := turnOff s) hc]
  rfl

end Sys2Proof.Proofs
end

section
/-! PROOFS. The laws of the TrackingController and the two commands that load the frame (41_tracking.md R160, R161, R163,
R164). -/

namespace Sys2Proof.Machine

open Sys2Proof.Safety

/-! ### The speed law, region by region (41_tracking.md R163) -/

theorem speedFromSeparationQ_of_closestSep_le {c : Config} {sep : Nat} (hfar : c.closestSep ≤ sep) :
    speedFromSeparationQ c sep = 0 := if_pos hfar

theorem speedFromSeparationQ_plateau {c : Config} {sep : Nat} (hnear : sep < c.closestSep)
    (hfloor : 3 * c.closestSep ≤ 4 * sep) : speedFromSeparationQ c sep = 25 * spdDen c := by
  rw [speedFromSeparationQ, if_neg hnear.not_ge, if_pos hfloor]

theorem speedFromSeparationQ_ramp {c : Config} {sep : Nat} (hramp : 4 * sep < 3 * c.closestSep) :
    speedFromSeparationQ c sep = 200 * (c.closestSep - sep) := by
  have hnear : sep < c.closestSep := by omega
  rw [speedFromSeparationQ, if_neg hnear.not_ge, if_neg hramp.not_ge]

/-! ### The pair of a crowded frame (41_tracking.md R164)

The two selections are Mathlib's `List.argmax` and `List.argmin` of Y, so "first" and "greatest" or "least" are the
library's facts about those. -/

theorem argmax_y_eq_firstMaxY (best : Slot) (ps : List Slot) :
    (best :: ps).argmax (fun t => t.y.toNat) = some (firstMaxY best ps) := by
  induction ps generalizing best with
  | nil => rfl
  | cons t ts ih =>
    rw [firstMaxY, ← ih]
    by_cases hlt : best.y.toNat < t.y.toNat <;> simp [List.argmax, List.argAux, hlt]

theorem argmin_y_eq_firstMinY (best : Slot) (ps : List Slot) :
    (best :: ps).argmin (fun t => t.y.toNat) = some (firstMinY best ps) := by
  induction ps generalizing best with
  | nil => rfl
  | cons t ts ih =>
    rw [firstMinY, ← ih]
    by_cases hlt : t.y.toNat < best.y.toNat <;> simp [List.argmin, List.argAux, hlt]

/-- An `argmax` stands at an index before which every value is strictly smaller. -/
theorem exists_first_index_of_mem_argmax {β : Type} [LinearOrder β] {f : Slot → β} {ps : List Slot} {a : Slot}
    (ha : a ∈ ps.argmax f) :
    ∃ k : Nat, ps[k]? = some a ∧ (∀ p ∈ ps, f p ≤ f a) ∧ ∀ j < k, ∀ p, ps[j]? = some p → f p < f a := by
  obtain ⟨hmem, hgreatest, hfirst⟩ := List.mem_argmax_iff.1 ha
  refine ⟨ps.idxOf a, List.getElem?_idxOf hmem, hgreatest, fun j hj p hp => lt_of_not_ge fun hle => ?_⟩
  obtain ⟨hlen, rfl⟩ := List.getElem?_eq_some_iff.1 hp
  have hidx : ps.idxOf a ≤ ps.idxOf ps[j] := hfirst _ (List.getElem_mem hlen) hle
  have hj' : ps.idxOf ps[j] ≤ j := le_of_not_gt fun hlt => by simpa using List.not_of_lt_findIdx hlt
  omega

theorem firstGreatestY_firstMaxY (p : Slot) (ps : List Slot) : FirstGreatestY (p :: ps) (firstMaxY p ps) :=
  exists_first_index_of_mem_argmax (argmax_y_eq_firstMaxY p ps)

/-- The least Y is the greatest in the dual order. -/
theorem firstLeastY_firstMinY (p : Slot) (ps : List Slot) : FirstLeastY (p :: ps) (firstMinY p ps) :=
  exists_first_index_of_mem_argmax (f := fun t => OrderDual.toDual t.y.toNat) (argmin_y_eq_firstMinY p ps)

theorem firstMaxY_eq_self {p : Slot} {ps : List Slot} (h : ∀ q ∈ ps, q.y = p.y) : firstMaxY p ps = p := by
  induction ps with
  | nil => rfl
  | cons t ts ih =>
    obtain ⟨ht, hts⟩ := List.forall_mem_cons.1 h
    rw [firstMaxY, ht, if_neg (lt_irrefl _), ih hts]

theorem firstMinY_eq_self {p : Slot} {ps : List Slot} (h : ∀ q ∈ ps, q.y = p.y) : firstMinY p ps = p := by
  induction ps with
  | nil => rfl
  | cons t ts ih =>
    obtain ⟨ht, hts⟩ := List.forall_mem_cons.1 h
    rw [firstMinY, ht, if_neg (lt_irrefl _), ih hts]

@[simp] theorem separation_self (a : Slot) : separation a a = 0 := by simp [separation]

/-- The midpoint of a point with itself is that point's x (R166). -/
@[simp] theorem steerPairQ_self (a : Slot) : steerPairQ a a = steerOneQ a := by
  unfold steerPairQ steerOneQ
  ring

/-! ### The frame (41_tracking.md R160) -/

@[simp] theorem frame_get_empty (i : Fin 4) : Frame.empty.get i = Slot.absent := by
  match i with
  | 0 | 1 | 2 | 3 => rfl

end Sys2Proof.Machine

namespace Sys2Proof.Proofs

open Sys2Proof.Machine

/-- Settles O21, region by region; on the ramp both sides of the percentage are 200 * (C - sep) * C. -/
theorem speedLawHasItsThreeRegions : Obligations.SpeedLawHasItsThreeRegions := by
  unfold Obligations.SpeedLawHasItsThreeRegions
  refine ⟨fun c sep => ⟨speedFromSeparationQ_of_closestSep_le, speedFromSeparationQ_plateau, fun hramp => ?_⟩,
    fun c hc => ?_⟩
  · have hspeed := speedFromSeparationQ_ramp hramp
    refine ⟨hspeed, ?_⟩
    rw [hspeed, spdDen]
    ring
  · simp [speedFromSeparationQ, spdDen, hc]

/-- Settles O23: the selections are the argmax and the argmin of Y, and with all Y equal neither leaves the first
point. -/
theorem ambiguousPairIsFirstGreatestAndFirstLeast : Obligations.AmbiguousPairIsFirstGreatestAndFirstLeast := by
  unfold Obligations.AmbiguousPairIsFirstGreatestAndFirstLeast
  refine fun p ps => ⟨firstGreatestY_firstMaxY p ps, firstLeastY_firstMinY p ps, fun hall => ?_⟩
  rw [firstMaxY_eq_self hall, firstMinY_eq_self hall]
  exact ⟨rfl, rfl, separation_self p, steerPairQ_self p⟩

/-- Settles O35, by the rule for reading a slot after a write. -/
theorem bslotLoadsOneSlot : Obligations.BslotLoadsOneSlot := by
  unfold Obligations.BslotLoadsOneSlot
  refine ⟨fun slot v x y => encodeB_toNat 0x11 slot v x y, fun s slot v x y => ?_⟩
  refine ⟨_, exec_bslot slot v x y s, rfl, ?_, fun j hj => ?_⟩
  · rw [setFrame_frame, frame_get_set, if_pos rfl]
    rfl
  · rw [setFrame_frame, frame_get_set, if_neg hj]

/-- Settles O34: the frame it leaves is the empty one, absent at every slot. -/
theorem bclrEmptiesTheFrame : Obligations.BclrEmptiesTheFrame := by
  unfold Obligations.BclrEmptiesTheFrame
  exact ⟨rfl, fun s => ⟨_, exec_bclr s, rfl, frame_get_empty⟩⟩

end Sys2Proof.Proofs
end

section
/-! PROOFS. The manual cycle: what each of its three steps can do, and the rules of 42_manual.md (R200 to R207). -/

namespace Sys2Proof

/-- A concatenation is the more significant part over zeros, with the other part in the low bits. -/
theorem append_eq_or {h l : Nat} (a : BitVec h) (b : BitVec l) :
    a ++ b = (a ++ (0 : BitVec l)) ||| b.setWidth (h + l) := by
  ext i hi
  by_cases hlow : i < l
  · simp [BitVec.getElem_append, hlow]
  · simp [BitVec.getElem_append, hlow, b.getLsbD_of_ge i (by omega)]

end Sys2Proof

namespace Sys2Proof.Machine

open Sys2Proof.Safety

/-! ### Step 1: the direction keys (42_manual.md R200 to R202, R205) -/

/-- The one rule behind both direction keys: from NEUTRAL select `d`; while moving in `d` speed up; while moving the
other way slow down, and flip to `d` at Speed 0. -/
def driveToward (d : Direction) (s : State) : State :=
  if s.dir = .neutral then setDirection d s
  else if s.dir = d then increaseSpeed s
  else flipAtZero d (decreaseSpeed s)

theorem upKey_eq_driveToward (s : State) : upKey s = driveToward .forward s := by
  unfold upKey driveToward
  cases s.dir <;> rfl

theorem downKey_eq_driveToward (s : State) : downKey s = driveToward .backward s := by
  unfold downKey driveToward
  cases s.dir <;> rfl

/-- UP alone drives forward, DOWN alone backward; both or neither do nothing (R200, R205). -/
theorem driveStep_cases (k : Keys) (s : State) :
    (k.up = k.down ∧ driveStep k s = s)
      ∨ (k.up = true ∧ k.down = false ∧ driveStep k s = driveToward .forward s)
      ∨ (k.up = false ∧ k.down = true ∧ driveStep k s = driveToward .backward s) := by
  rw [← upKey_eq_driveToward, ← downKey_eq_driveToward]
  cases hup : k.up <;> cases hdown : k.down <;> simp [driveStep, upOnly, downOnly, hup, hdown]

theorem driveStep_of_up_eq_down {k : Keys} (h : k.up = k.down) (s : State) : driveStep k s = s := by
  obtain ⟨-, heq⟩ | ⟨hup, hdown, -⟩ | ⟨hup, hdown, -⟩ := driveStep_cases k s
  · exact heq
  all_goals simp [hup, hdown] at h

theorem flipAtZero_eq_iff (d : Direction) (s u : State) :
    flipAtZero d s = u ↔ if s.speedQ = 0 then setDirection d s = u else u = s := by
  unfold flipAtZero
  split
  · rfl
  · exact eq_comm

/-- A lowered speed always fits SPEED_Q. -/
theorem speedQ_sub_lt (s : State) (n : Nat) : s.speedQ.toNat - n < 2 ^ 20 :=
  (Nat.sub_le _ _).trans_lt s.speedQ.isLt

/-- A decrease by STEP percent while moving, with the flip of R202: Speed is 0 after it exactly when it was at most
STEP percent before. -/
theorem flipAtZero_decreaseSpeed {d : Direction} {s : State} (hd : d ≠ .neutral) (hmoving : s.dir ≠ .neutral) :
    flipAtZero d (decreaseSpeed s)
      = setDir (if s.speedQ.toNat ≤ s.cfg.step * spdDen s.cfg then d else s.dir)
          (writeSpeed (s.speedQ.toNat - s.cfg.step * spdDen s.cfg) s) := by
  obtain ⟨hneutral, -⟩ | ⟨-, heq⟩ := decreaseSpeed_cases s
  · exact absurd hneutral hmoving
  have hzero : (decreaseSpeed s).speedQ = 0 ↔ s.speedQ.toNat ≤ s.cfg.step * spdDen s.cfg := by
    rw [heq, writeSpeed_speedQ, ← BitVec.toNat_inj, BitVec.toNat_ofNat, Nat.mod_eq_of_lt (speedQ_sub_lt s _)]
    exact Nat.sub_eq_zero_iff_le
  unfold flipAtZero
  by_cases hstop : s.speedQ.toNat ≤ s.cfg.step * spdDen s.cfg
  · rw [if_pos (hzero.2 hstop), if_pos hstop, setDirection_of_ne_neutral hd, heq]
    rfl
  · rw [if_neg (mt hzero.1 hstop), if_neg hstop, heq]
    rfl

/-- Every outcome of one direction key (R201, R202). -/
theorem driveToward_cases {d : Direction} (hd : d ≠ .neutral) (s : State) :
    (s.dir = .neutral ∧ driveToward d s = setDir d s)
      ∨ (s.dir = d ∧ driveToward d s
          = writeSpeed (min (s.speedQ.toNat + s.cfg.step * spdDen s.cfg) (spdMaxQ s.cfg)) s)
      ∨ (s.dir ≠ .neutral ∧ s.dir ≠ d ∧ driveToward d s
          = setDir (if s.speedQ.toNat ≤ s.cfg.step * spdDen s.cfg then d else s.dir)
              (writeSpeed (s.speedQ.toNat - s.cfg.step * spdDen s.cfg) s)) := by
  unfold driveToward
  by_cases hneutral : s.dir = .neutral
  · exact .inl ⟨hneutral, by rw [if_pos hneutral, setDirection_of_ne_neutral hd]; rfl⟩
  rw [if_neg hneutral]
  by_cases hsame : s.dir = d
  · obtain ⟨hdir, -⟩ | ⟨-, heq⟩ := increaseSpeed_cases s
    · exact absurd hdir hneutral
    · exact .inr (.inl ⟨hsame, by rw [if_pos hsame, heq]⟩)
  · exact .inr (.inr ⟨hneutral, hsame, by rw [if_neg hsame, flipAtZero_decreaseSpeed hd hneutral]⟩)

/-- What one direction key writes: DIR, perhaps after one speed write. -/
theorem driveToward_writes {d : Direction} (hd : d ≠ .neutral) (s : State) :
    (∃ e, driveToward d s = setDir e s) ∨ ∃ e q, driveToward d s = setDir e (writeSpeed q s) := by
  obtain ⟨-, heq⟩ | ⟨-, heq⟩ | ⟨-, -, heq⟩ := driveToward_cases hd s
  · exact .inl ⟨d, heq⟩
  · exact .inr ⟨s.dir, _, heq⟩
  · exact .inr ⟨_, _, heq⟩

theorem driveStep_writes (k : Keys) (s : State) :
    (∃ d, driveStep k s = setDir d s) ∨ ∃ d q, driveStep k s = setDir d (writeSpeed q s) := by
  obtain ⟨-, heq⟩ | ⟨-, -, heq⟩ | ⟨-, -, heq⟩ := driveStep_cases k s
  · exact .inl ⟨s.dir, heq⟩
  · rw [heq]
    exact driveToward_writes (by decide) s
  · rw [heq]
    exact driveToward_writes (by decide) s

/-- A direction key while moving (R202): against the direction it slows down and, at Speed 0, flips; with it, it speeds
up. Either way it emits the two SPD events of one speed write. -/
theorem driveToward_of_moving {d : Direction} {s : State} (hc : s.cfg.closestSep ≤ 4095) (hd : d ≠ .neutral)
    (hmoving : s.dir ≠ .neutral) :
    (s.dir ≠ d →
      (driveToward d s).speedQ.toNat = s.speedQ.toNat - s.cfg.step * spdDen s.cfg
      ∧ (driveToward d s).dir = if s.speedQ.toNat ≤ s.cfg.step * spdDen s.cfg then d else s.dir)
    ∧ (s.dir = d →
      (driveToward d s).speedQ.toNat = min (s.speedQ.toNat + s.cfg.step * spdDen s.cfg) (spdMaxQ s.cfg)
      ∧ (driveToward d s).dir = s.dir)
    ∧ (driveToward d s).events = s.events ++ speedEvents s.cfg (driveToward d s).speedQ.toNat := by
  obtain ⟨hneutral, -⟩ | ⟨hsame, heq⟩ | ⟨-, hother, heq⟩ := driveToward_cases hd s
  · exact absurd hneutral hmoving
  · have hval := writeSpeed_speedQ_toNat _ s (Nat.min_le_right (s.speedQ.toNat + s.cfg.step * spdDen s.cfg) _) hc
    rw [heq, hval]
    exact ⟨fun hother => absurd hsame hother, fun _ => ⟨rfl, rfl⟩, by rw [writeSpeed_eq]; rfl⟩
  · have hval : (writeSpeed (s.speedQ.toNat - s.cfg.step * spdDen s.cfg) s).speedQ.toNat
        = s.speedQ.toNat - s.cfg.step * spdDen s.cfg := by
      simpa using Nat.mod_eq_of_lt (speedQ_sub_lt s _)
    rw [heq, setDir_speedQ, hval]
    exact ⟨fun _ => ⟨rfl, rfl⟩, fun hsame => absurd hsame hother, by rw [setDir_events, writeSpeed_eq]; rfl⟩

/-- One direction key pressed while moving is against the direction or with it: the four cases of R202. -/
theorem driveStep_of_one_key {k : Keys} {s : State} (hkeys : k.up ≠ k.down) (hmoving : s.dir ≠ .neutral) :
    ∃ d, d ≠ .neutral ∧ driveStep k s = driveToward d s
      ∧ ((k.down = true ∧ s.dir = .forward ∨ k.up = true ∧ s.dir = .backward) ↔ s.dir ≠ d)
      ∧ ((k.up = true ∧ s.dir = .forward ∨ k.down = true ∧ s.dir = .backward) ↔ s.dir = d) := by
  obtain ⟨hsame, -⟩ | ⟨hup, hdown, heq⟩ | ⟨hup, hdown, heq⟩ := driveStep_cases k s
  · exact absurd hsame hkeys
  · refine ⟨.forward, by decide, heq, ?_⟩
    cases hdir : s.dir <;> simp [hup, hdown, hdir] at hmoving ⊢
  · refine ⟨.backward, by decide, heq, ?_⟩
    cases hdir : s.dir <;> simp [hup, hdown, hdir] at hmoving ⊢

/-- The other direction of travel. -/
theorem reverse_eq {a d : Direction} (ha : a ≠ .neutral) (hd : d ≠ .neutral) (hne : a ≠ d) :
    (if a = .forward then .backward else .forward) = d := by
  cases a <;> cases d <;> simp at ha hd hne ⊢

@[simp] theorem driveStep_cfg (k : Keys) (s : State) : (driveStep k s).cfg = s.cfg := by
  obtain ⟨d, heq⟩ | ⟨d, q, heq⟩ := driveStep_writes k s <;> simp [heq]

@[simp] theorem driveStep_rotQ (k : Keys) (s : State) : (driveStep k s).rotQ = s.rotQ := by
  obtain ⟨d, heq⟩ | ⟨d, q, heq⟩ := driveStep_writes k s <;> simp [heq]

/-- The direction keys run no motor: what step 1 appends is at most a pair of SPD events. -/
theorem driveStep_events (k : Keys) (s : State) :
    ∃ es, (driveStep k s).events = s.events ++ es ∧ ∀ e ∈ es, isRunEvent e = false := by
  obtain ⟨d, heq⟩ | ⟨d, q, heq⟩ := driveStep_writes k s
  · exact ⟨[], by simp [heq], by simp⟩
  · exact ⟨[.spd .m1 (spdByte s.cfg q), .spd .m2 (spdByte s.cfg q)], by simp [heq], by simp [isRunEvent]⟩

/-- Step 1 is what the commands whose micro-operations it runs tell (00_scope.md R10). -/
theorem driveKeys_iff (k : Keys) (s u : State) : DriveKeys k s u ↔ driveStep k s = u := by
  unfold DriveKeys
  obtain ⟨hsame, heq⟩ | ⟨hup, hdown, heq⟩ | ⟨hup, hdown, heq⟩ := driveStep_cases k s
  · simp [heq, hsame, eq_comm (a := u)]
  · rw [heq, hup, hdown]
    cases hdir : s.dir <;> simp [driveToward, flipAtZero_eq_iff, hdir]
  · rw [heq, hup, hdown]
    cases hdir : s.dir <;> simp [driveToward, flipAtZero_eq_iff, hdir]

/-! ### Step 2: the steering keys (42_manual.md R203, R205) -/

/-- LEFT alone rotates right, RIGHT alone left; both or neither do nothing (R203, R205). -/
theorem steerStep_cases (k : Keys) (s : State) :
    (k.left = k.right ∧ steerStep k s = s)
      ∨ (k.left = true ∧ k.right = false ∧ steerStep k s = rotateRight 0 s)
      ∨ (k.left = false ∧ k.right = true ∧ steerStep k s = rotateLeft 0 s) := by
  cases hleft : k.left <;> cases hright : k.right <;> simp [steerStep, leftOnly, rightOnly, hleft, hright]

theorem steerStep_of_left_eq_right {k : Keys} (h : k.left = k.right) (s : State) : steerStep k s = s := by
  obtain ⟨-, heq⟩ | ⟨hleft, hright, -⟩ | ⟨hleft, hright, -⟩ := steerStep_cases k s
  · exact heq
  all_goals simp [hleft, hright] at h

/-- What step 2 writes: nothing, or one rotation. -/
theorem steerStep_writes (k : Keys) (s : State) : steerStep k s = s ∨ ∃ q, steerStep k s = writeRot q s := by
  obtain ⟨-, heq⟩ | ⟨-, -, heq⟩ | ⟨-, -, heq⟩ := steerStep_cases k s
  · exact .inl heq
  · rw [heq]
    exact (rotateRight_cases 0 s).imp And.right fun ⟨_, hwrite⟩ => ⟨_, hwrite⟩
  · rw [heq]
    exact (rotateLeft_cases 0 s).imp And.right fun ⟨_, hwrite⟩ => ⟨_, hwrite⟩

@[simp] theorem steerStep_dir (k : Keys) (s : State) : (steerStep k s).dir = s.dir := by
  obtain heq | ⟨q, heq⟩ := steerStep_writes k s <;> simp [heq]

@[simp] theorem steerStep_speedQ (k : Keys) (s : State) : (steerStep k s).speedQ = s.speedQ := by
  obtain heq | ⟨q, heq⟩ := steerStep_writes k s <;> simp [heq]

/-- The steering keys reach no motor: what step 2 appends is at most one PWM event. -/
theorem steerStep_events (k : Keys) (s : State) :
    ∃ es, (steerStep k s).events = s.events ++ es ∧ ∀ e ∈ es, isMotorEvent e = false := by
  obtain heq | ⟨q, heq⟩ := steerStep_writes k s
  · exact ⟨[], by simp [heq], by simp⟩
  · exact ⟨[.pwm s.cfg.servoCh 0 (servoTick s.cfg q)], by simp [heq], by simp [isMotorEvent]⟩

/-- Step 2 is what the commands whose micro-operations it runs tell (00_scope.md R10). -/
theorem steerKeys_iff (k : Keys) (s u : State) : SteerKeys k s u ↔ steerStep k s = u := by
  unfold SteerKeys
  obtain ⟨hsame, heq⟩ | ⟨hleft, hright, heq⟩ | ⟨hleft, hright, heq⟩ := steerStep_cases k s
  · simp [heq, hsame, eq_comm (a := u)]
  · simp [heq, hleft, hright]
  · simp [heq, hleft, hright]

/-- The default magnitude is 1 percent (40_actuator.md R124). -/
theorem effMagnitude_zero_mul (n : Nat) : effMagnitude 0 * n = n := Nat.one_mul n

/-- One step of the default magnitude to the right: a smaller value always fits the register. -/
theorem rotateRight_zero_rotQ_toNat (s : State) :
    (rotateRight 0 s).rotQ.toNat
      = if rotDen s.cfg ≤ s.rotQ.toNat then s.rotQ.toNat - rotDen s.cfg else s.rotQ.toNat := by
  have hcases := rotateRight_cases 0 s
  rw [effMagnitude_zero_mul] at hcases
  obtain ⟨hpast, heq⟩ | ⟨hroom, heq⟩ := hcases
  · rw [if_neg hpast.not_ge, heq]
  · have hfits : s.rotQ.toNat - rotDen s.cfg < 2 ^ 20 := (Nat.sub_le _ _).trans_lt s.rotQ.isLt
    rw [if_pos hroom, heq, writeRot_rotQ, BitVec.toNat_ofNat, Nat.mod_eq_of_lt hfits]

/-- One step of the default magnitude to the left. -/
theorem rotateLeft_zero_rotQ_toNat {s : State} (hx : s.cfg.xMax ≤ 4095) :
    (rotateLeft 0 s).rotQ.toNat
      = if s.rotQ.toNat + rotDen s.cfg ≤ rotMaxQ s.cfg then s.rotQ.toNat + rotDen s.cfg else s.rotQ.toNat := by
  have hcases := rotateLeft_cases 0 s
  rw [effMagnitude_zero_mul] at hcases
  obtain ⟨hpast, heq⟩ | ⟨hroom, heq⟩ := hcases
  · rw [if_neg hpast.not_ge, heq]
  · rw [if_pos hroom, heq, writeRot_rotQ_toNat _ s hroom hx]

/-! ### Step 3: the dead-man gate (42_manual.md R204) -/

/-- The gate sends one run signal: the direction's with HOLD, RELEASE without. -/
theorem holdGate_eq_emitRun (k : Keys) (s : State) :
    holdGate k s = emitRun (if k.hold = true then runSignal s.dir else .release) s := by
  unfold holdGate
  split <;> rfl

theorem exec_enable_or_disable (k : Keys) (s : State) :
    exec (if k.hold = true then .enable else .disable) s = .next (holdGate k s) := by
  unfold holdGate
  split <;> rfl

/-! ### The cycle (42_manual.md R200) -/

/-- Steps 2 and 3 leave DIR as step 1 left it. -/
@[simp] theorem manualCycle_dir (k : Keys) (s : State) : (manualCycle k s).dir = (driveStep k s).dir := by
  simp [manualCycle, holdGate_eq_emitRun]

@[simp] theorem manualCycle_speedQ (k : Keys) (s : State) : (manualCycle k s).speedQ = (driveStep k s).speedQ := by
  simp [manualCycle, holdGate_eq_emitRun]

@[simp] theorem manualCycle_rotQ (k : Keys) (s : State) :
    (manualCycle k s).rotQ = (steerStep k (driveStep k s)).rotQ := by
  simp [manualCycle, holdGate_eq_emitRun]

/-- The stream of a cycle: what step 1 left, then steering events that reach no motor, then the gate's two RUN
events. -/
theorem manualCycle_events (k : Keys) (s : State) :
    ∃ es, (manualCycle k s).events = (driveStep k s).events ++ es
        ++ runEvents (if k.hold = true then runSignal (manualCycle k s).dir else .release)
      ∧ ∀ e ∈ es, isMotorEvent e = false := by
  obtain ⟨es, hes, hmotor⟩ := steerStep_events k (driveStep k s)
  refine ⟨es, ?_, hmotor⟩
  rw [manualCycle_dir, ← hes, manualCycle, holdGate_eq_emitRun, emitRun_eq, steerStep_dir]
  rfl

/-- After step 1 a cycle emits no SPD event. -/
theorem manualCycle_events_no_spd (k : Keys) (s : State) :
    ∃ es, (manualCycle k s).events = (driveStep k s).events ++ es ∧ ∀ m v, Event.spd m v ∉ es := by
  obtain ⟨es, hes, hmotor⟩ := manualCycle_events k s
  refine ⟨_, by rw [hes, List.append_assoc], fun m v hmem => ?_⟩
  rcases List.mem_append.1 hmem with hsteer | hgate
  · cases hmotor _ hsteer
  · simp [runEvents] at hgate

/-- A stream that ends with the two RUN events of a signal leaves every motor that signal. -/
theorem motorRun_of_events_runEvents {t : State} {es : List Event} {sig : RunSignal}
    (ht : t.events = es ++ runEvents sig) (m : Motor) : motorRun m t = some sig := by
  rw [motorRun, ht, lastOf_append]
  cases m <;> simp [runEvents, latest, runTo]

end Sys2Proof.Machine

namespace Sys2Proof.Proofs

open Sys2Proof.Machine Sys2Proof.Safety

/-- Settles O40: the states between are those after `driveStep` and `steerStep`. -/
theorem manualRunsItsThreeSteps : Obligations.ManualRunsItsThreeSteps := by
  unfold Obligations.ManualRunsItsThreeSteps
  refine ⟨fun k => append_eq_or ((0x14 : BitVec 5) ++ (0 : BitVec 19)) k.bits, fun s k => ?_⟩
  exact ⟨driveStep k s, steerStep k (driveStep k s), manualCycle k s, (driveKeys_iff k s _).2 rfl,
    (steerKeys_iff k _ _).2 rfl, exec_enable_or_disable k _, exec_manual k s⟩

/-- Settles O42, by whether the key is against the direction; the steps after the first write neither DIR nor SPEED_Q
and emit no SPD event. -/
theorem manualZeroCrossingReverses : Obligations.ManualZeroCrossingReverses := by
  unfold Obligations.ManualZeroCrossingReverses
  rintro s t k d hc hkeys hmoving rfl ht
  obtain rfl : manualCycle k s = t := by simpa using ht
  obtain ⟨es, hes, hspd⟩ := manualCycle_events_no_spd k s
  rw [hes, manualCycle_dir, manualCycle_speedQ]
  obtain ⟨d, hd, heq, hagainst_iff, hwith_iff⟩ := driveStep_of_one_key hkeys hmoving
  obtain ⟨hagainst, hwith, hevents⟩ := driveToward_of_moving hc hd hmoving
  rw [heq, hagainst_iff, hwith_iff]
  refine ⟨fun hne => ?_, hwith, es, by rw [hevents], hspd⟩
  rw [reverse_eq hmoving hd hne]
  exact hagainst hne

/-- Settles O43, by the steering keys: step 1 left ROT_Q and the parameters as they were. -/
theorem manualSteersByOnePercent : Obligations.ManualSteersByOnePercent := by
  unfold Obligations.ManualSteersByOnePercent
  intro s t k hx ht
  obtain rfl : manualCycle k s = t := by simpa using ht
  rw [manualCycle_rotQ]
  obtain ⟨hsame, heq⟩ | ⟨hleft, hright, heq⟩ | ⟨hleft, hright, heq⟩ := steerStep_cases k (driveStep k s)
  · rw [heq, driveStep_rotQ, hsame]
    cases k.right <;> simp
  · rw [heq, rotateRight_zero_rotQ_toNat, driveStep_cfg, driveStep_rotQ]
    simp [hleft, hright]
  · rw [heq, rotateLeft_zero_rotQ_toNat (by simpa using hx), driveStep_cfg, driveStep_rotQ]
    simp [hleft, hright]

/-- Settles O44: the direction keys emit at most SPD events and the steering keys at most a PWM event, so the gate's
two RUN events are the only ones, and the last. -/
theorem manualEndsWithTheDeadManGate : Obligations.ManualEndsWithTheDeadManGate := by
  unfold Obligations.ManualEndsWithTheDeadManGate
  intro s k
  obtain ⟨drive, hdrive, hrun⟩ := driveStep_events k s
  obtain ⟨steer, hsteer, hmotor⟩ := manualCycle_events k s
  refine ⟨manualCycle k s, drive ++ steer, exec_manual k s, ?_, fun e he => ?_, motorRun_of_events_runEvents hsteer⟩
  · rw [hsteer, hdrive, List.append_assoc s.events]
  · rcases List.mem_append.1 he with he | he
    · exact hrun e he
    · obtain ⟨ch, on, off, rfl⟩ := exists_eq_pwm_of_not_motor (hmotor e he)
      rfl

/-- Settles O45: with opposing keys a step leaves the state, as with neither, and no step reads EXIT or a mode key. -/
theorem manualOpposingKeysCancelAndOthersAreIgnored : Obligations.ManualOpposingKeysCancelAndOthersAreIgnored := by
  unfold Obligations.ManualOpposingKeysCancelAndOthersAreIgnored
  intro s k
  refine ⟨?drive, ?steer, (driveKeys_iff _ s s).2 (driveStep_of_up_eq_down rfl s),
    (steerKeys_iff _ s s).2 (steerStep_of_left_eq_right rfl s), fun e mm mt => rfl⟩
  case drive =>
    simp only [exec_manual, manualCycle, driveStep_of_up_eq_down]
    rfl
  case steer =>
    simp only [exec_manual, manualCycle, steerStep_of_left_eq_right]
    rfl

end Sys2Proof.Proofs
end

section
/-! PROOFS. The supervisor and the step prologue (43_supervisor.md R230 to R237): NOP and SETMODE, the emergency stop,
the dispatch to one controller, and the HALTED gate. -/

namespace Sys2Proof

/-! ### The one word of NOP (43_supervisor.md R230) -/

theorem reservedZero_eq_ok_iff (w : Word) (lo len : Nat) (i j : Instr) :
    reservedZero w lo len i = .ok j ↔ field w lo len = 0 ∧ i = j := by
  unfold reservedZero
  split
  case isTrue hzero => simp [hzero]
  case isFalse hne => exact iff_of_false nofun fun ⟨hzero, _⟩ => hne hzero

theorem decodeD_setdir_ne_nop (w : Word) : decodeD w .setdir ≠ .ok .nop := by
  unfold decodeD
  split <;> simp [reservedZero_eq_ok_iff]

/-- A word is its opcode and the 27 bits below it. -/
theorem eq_zero_of_opcode_of_low {w : Word} (hop : (opcode w).toNat = 0) (hlow : field w 0 27 = 0) : w = 0 := by
  have hlow' : (field w 0 27).toNat = 0 := by rw [hlow]; rfl
  rw [opcode_toNat] at hop
  rw [field_toNat] at hlow'
  apply BitVec.eq_of_toNat_eq
  show w.toNat = 0
  omega

/-- Only opcode 0 decodes to NOP, and its format reserves every other bit. -/
theorem eq_zero_of_decode_nop {w : Word} (h : decode w = .ok .nop) : w = 0 := by
  unfold decode at h
  split at h
  case h_1 hop =>
    obtain ⟨hlow, -⟩ := (reservedZero_eq_ok_iff w 0 27 .nop .nop).1 h
    exact eq_zero_of_opcode_of_low hop hlow
  case h_2 => exact absurd h (decodeD_setdir_ne_nop w)
  all_goals simp [decodeN, decodeS, decodeU, decodeB, decodeK, decodeM, reservedZero_eq_ok_iff] at h

end Sys2Proof

namespace Sys2Proof.Machine

/-! ### The step prologue (43_supervisor.md R235) -/

theorem actsWhileHalted_iff (i : Instr) : actsWhileHalted i = true ↔ i = .nop ∨ i = .turnoff := by
  cases i <;> simp [actsWhileHalted]

theorem discarded_iff (i : Instr) (s : State) :
    discarded i s = true ↔ s.halted = true ∧ i ≠ .nop ∧ i ≠ .turnoff := by
  rw [discarded, Bool.and_eq_true, Bool.not_eq_true', ← Bool.not_eq_true, actsWhileHalted_iff, not_or]

/-- After the illegal check, the HALTED gate decides whether the command's rule runs. -/
theorem step_of_legalWord {s : State} {w : Word} {rest : List HostInput} {i : Instr}
    (hin : s.inbox = .command w :: rest) (hdec : decode w = .ok i) :
    step s = if discarded i s then .next (setInbox rest s) else exec i (setInbox rest s) := by
  simp only [step, takeInput, hin, acceptCommand, hdec]
  rfl

/-! ### EXIT (43_supervisor.md R233) -/

theorem supervisorCycle_of_exit {k : Keys} (hexit : k.exit = true) (s : State) :
    supervisorCycle k s = { turnOff s with halted := true } := if_pos hexit

/-- Zeroing the PWM channels tells no motor anything. -/
theorem runTo_eq_none_of_mem_pwmZeroes {c : Config} {e : Event} (he : e ∈ pwmZeroes c) (m : Motor) :
    runTo m e = none := by
  unfold pwmZeroes at he
  split at he
  · obtain ⟨ch, -, rfl⟩ := List.mem_map.1 he
    rfl
  · cases he

/-- The RELEASE pair is the last a TURNOFF sends of run signals: what follows it are SPD and PWM events. -/
theorem motorRun_turnOff (m : Motor) (s : State) : motorRun m (turnOff s) = some .release := by
  rw [motorRun, turnOff_eq, lastOf_append,
    foldl_latest_of_none _ _ _ fun e he => runTo_eq_none_of_mem_pwmZeroes he m, lastOf_append]
  cases m <;> simp [latest, runTo]

/-! ### The mode keys and the dispatch (43_supervisor.md R232, R234, R236) -/

/-- One mode key alone selects its mode; both or neither leave it (R234). -/
theorem modeAfterKeys_cases (k : Keys) (m : Mode) :
    (k.modeManual = true ∧ k.modeTrack = false ∧ modeAfterKeys k m = .manual)
      ∨ (k.modeTrack = true ∧ k.modeManual = false ∧ modeAfterKeys k m = .track)
      ∨ (k.modeManual = k.modeTrack ∧ modeAfterKeys k m = m) := by
  cases hmanual : k.modeManual <;> cases htrack : k.modeTrack <;> simp [modeAfterKeys, hmanual, htrack]

theorem supervisorCycle_of_no_exit {k : Keys} (hexit : k.exit = false) (s : State) :
    supervisorCycle k s = dispatchController k (setMode (modeAfterKeys k s.mode) s) := by
  simp [supervisorCycle, hexit]

theorem dispatchController_of_manual {s : State} (hmode : s.mode = .manual) (k : Keys) :
    dispatchController k s = manualCycle k s := by
  simp only [dispatchController, hmode]

theorem dispatchController_of_track {s : State} (hmode : s.mode = .track) (k : Keys) :
    dispatchController k s = trackCycle s := by
  simp only [dispatchController, hmode]

/-! ### The controllers write neither MODE nor HALTED -/

@[simp] theorem driveStep_mode (k : Keys) (s : State) : (driveStep k s).mode = s.mode := by
  obtain ⟨d, heq⟩ | ⟨d, q, heq⟩ := driveStep_writes k s <;> simp [heq]

@[simp] theorem driveStep_halted (k : Keys) (s : State) : (driveStep k s).halted = s.halted := by
  obtain ⟨d, heq⟩ | ⟨d, q, heq⟩ := driveStep_writes k s <;> simp [heq]

@[simp] theorem steerStep_mode (k : Keys) (s : State) : (steerStep k s).mode = s.mode := by
  obtain heq | ⟨q, heq⟩ := steerStep_writes k s <;> simp [heq]

@[simp] theorem steerStep_halted (k : Keys) (s : State) : (steerStep k s).halted = s.halted := by
  obtain heq | ⟨q, heq⟩ := steerStep_writes k s <;> simp [heq]

@[simp] theorem manualCycle_mode (k : Keys) (s : State) : (manualCycle k s).mode = s.mode := by
  simp [manualCycle, holdGate_eq_emitRun]

@[simp] theorem manualCycle_halted (k : Keys) (s : State) : (manualCycle k s).halted = s.halted := by
  simp [manualCycle, holdGate_eq_emitRun]

@[simp] theorem trackCycle_mode (s : State) : (trackCycle s).mode = s.mode := by
  unfold trackCycle
  split <;> simp [trackNone, trackSingle, trackPair]

@[simp] theorem trackCycle_halted (s : State) : (trackCycle s).halted = s.halted := by
  unfold trackCycle
  split <;> simp [trackNone, trackSingle, trackPair]

@[simp] theorem dispatchController_mode (k : Keys) (s : State) : (dispatchController k s).mode = s.mode := by
  unfold dispatchController
  split <;> simp

@[simp] theorem dispatchController_halted (k : Keys) (s : State) : (dispatchController k s).halted = s.halted := by
  unfold dispatchController
  split <;> simp

end Sys2Proof.Machine

namespace Sys2Proof.Proofs

open Sys2Proof.Machine

/-- Settles O47: with EXIT the cycle is TURNOFF and HALTED, and TURNOFF's last run signals are its RELEASE pair. -/
theorem cycleExitIsTheEmergencyStop : Obligations.CycleExitIsTheEmergencyStop := by
  unfold Obligations.CycleExitIsTheEmergencyStop
  intro s k hexit
  refine ⟨turnOff s, _, exec_turnoff s, exec_cycle k s, supervisorCycle_of_exit hexit s, fun m => ?_⟩
  rw [supervisorCycle_of_exit hexit]
  exact motorRun_turnOff m s

/-- Settles O48: the premises fix `m` as the mode after the mode keys, and the controllers leave that mode and
HALTED. -/
theorem cycleDispatchesToOneController : Obligations.CycleDispatchesToOneController := by
  unfold Obligations.CycleDispatchesToOneController
  intro s k m hexit hmanual htrack hsame
  have hm : modeAfterKeys k s.mode = m := by
    obtain ⟨hon, hoff, heq⟩ | ⟨hon, hoff, heq⟩ | ⟨hboth, heq⟩ := modeAfterKeys_cases k s.mode
    · rw [heq, hmanual hon hoff]
    · rw [heq, htrack hon hoff]
    · rw [heq, hsame hboth]
  rw [exec_cycle, supervisorCycle_of_no_exit hexit, hm]
  refine ⟨⟨_, rfl, by simp, by simp⟩, ?manual, ?track⟩
  case manual =>
    rintro rfl
    rw [dispatchController_of_manual (setMode_mode _ s), exec_manual]
    rfl
  case track =>
    rintro rfl
    rw [dispatchController_of_track (setMode_mode _ s), exec_track]
    rfl

/-- Settles O9, by the illegal check and the two sides of the HALTED gate; the read port stands before neither. -/
theorem stepRunsTheDecodedCommand : Obligations.StepRunsTheDecodedCommand := by
  unfold Obligations.StepRunsTheDecodedCommand
  refine ⟨fun s w rest hin => ⟨step_of_illegalWord hin, fun i hdec hhalted hnop hoff => ?gated,
    fun i hdec hpass => ?runs⟩, fun s a rest _ hin => ⟨_, step_of_read hin, rfl⟩⟩
  case gated =>
    rw [step_of_legalWord hin hdec, if_pos ((discarded_iff i s).2 ⟨hhalted, hnop, hoff⟩)]
    rfl
  case runs =>
    have hkept : ¬ discarded i s = true := by
      rw [discarded_iff]
      rintro ⟨hhalted, hnop, hoff⟩
      simp [hhalted, hnop, hoff] at hpass
    rw [step_of_legalWord hin hdec, if_neg hkept]
    rfl

/-- Settles O46: NOP's format reserves every bit but the opcode, which is 0. -/
theorem nopDoesNothingAndSetmodeWritesMode : Obligations.NopDoesNothingAndSetmodeWritesMode := by
  unfold Obligations.NopDoesNothingAndSetmodeWritesMode
  exact ⟨rfl, fun _ => eq_zero_of_decode_nop, fun s => ⟨exec_nop s, Bool.and_false _⟩, rfl, rfl,
    fun s m => exec_setmode m s⟩

end Sys2Proof.Proofs
end

section
/-! PROOFS. The reset state at any parameter values (70_reset_and_hazards.md R290): what its two sized registers hold, and
the invariants of 10_state.md R30 in it. -/

namespace Sys2Proof.Machine

/-! ### The registers that a parameter sets -/

/-- ROT_MID_Q in the sensor's own units (R290). -/
theorem rotMidQ_eq (c : Config) : rotMidQ c = 100 * c.xMax := by
  unfold rotMidQ rotDen
  omega

theorem rotMidQ_le_rotMaxQ (c : Config) : rotMidQ c ≤ rotMaxQ c :=
  Nat.mul_le_mul_right (rotDen c) (by decide)

/-- With a legal X_MAX, ROT_Q holds the centre exactly. -/
theorem resetWith_rotQ_toNat {c : Config} (hx : c.xMax ≤ 4095) : (State.resetWith c).rotQ.toNat = rotMidQ c :=
  (BitVec.toNat_ofNat _ _).trans (Nat.mod_eq_of_lt ((rotMidQ_le_rotMaxQ c).trans_lt (rotMaxQ_lt hx)))

/-- With a legal MEM_INIT, TRK_MEM holds it exactly. -/
theorem resetWith_trkMem_toNat {c : Config} (hm : c.memInit ≤ 4095) : (State.resetWith c).trkMem.toNat = c.memInit :=
  (BitVec.toNat_ofNat _ _).trans (Nat.mod_eq_of_lt (Nat.lt_succ_of_le hm))

end Sys2Proof.Machine

namespace Sys2Proof.Safety

open Sys2Proof.Machine

/-! ### The invariants after reset (10_state.md R30) -/

/-- I4 holds of every state: no direction has the code 0b11. -/
theorem directionIsLegal (s : State) : DirectionIsLegal s := by
  cases hdir : s.dir <;> simp [DirectionIsLegal, hdir, Direction.code]

/-- Speed is 0, and Rotation is the centre of its range. -/
theorem invariants_resetWith {c : Config} (hx : c.xMax ≤ 4095) : Invariants (State.resetWith c) := by
  have hspeed : SpeedInRange (State.resetWith c) := Nat.zero_le _
  have hrot : RotationInRange (State.resetWith c) := (resetWith_rotQ_toNat hx).trans_le (rotMidQ_le_rotMaxQ c)
  have hneutral : NeutralIsStopped (State.resetWith c) := fun _ => rfl
  exact ⟨hspeed, hrot, hneutral, directionIsLegal _⟩

end Sys2Proof.Safety

namespace Sys2Proof.Proofs

open Sys2Proof.Machine Sys2Proof.Safety

/-- Settles O13: ROT_Q and TRK_MEM hold their parameter's value because it fits their width, and the frame is empty at
every slot. -/
theorem resetPutsEveryRegister : Obligations.ResetPutsEveryRegister := by
  unfold Obligations.ResetPutsEveryRegister
  refine ⟨fun _ => rfl, fun c hx hm => ?_⟩
  have hrot : (State.resetWith c).rotQ.toNat = 100 * c.xMax := (resetWith_rotQ_toNat hx).trans (rotMidQ_eq c)
  exact ⟨rfl, rfl, hrot, resetWith_trkMem_toNat hm, rfl, frame_get_empty, rfl, rfl, rfl, invariants_resetWith hx⟩

end Sys2Proof.Proofs
end

section
/-! PROOFS. The round trip between commands and words (30_encoding.md R80 to R91): each format, read as an opcode and
two fields, holds exactly the words that its encoder gives. -/

namespace Sys2Proof

/-! ### A word as its opcode and two fields -/

/-- A word whose low 27 bits are one field of `len` bits above one of `lo` bits, with the upper field all 0. -/
theorem word_toNat_eq_iff (w : Word) {lo len : Nat} (hlen : lo + len = 27) {n x : Nat} (hx : x < 2 ^ lo) :
    w.toNat = n * 2 ^ 27 + x ↔ (opcode w).toNat = n ∧ field w lo len = 0 ∧ (field w 0 lo).toNat = x := by
  rw [← BitVec.toNat_inj (x := field w lo len), opcode_toNat, field_toNat, field_toNat, pow_zero, Nat.div_one,
    show (0 : BitVec len).toNat = 0 from rfl]
  have hpow : 2 ^ 27 = 2 ^ lo * 2 ^ len := by rw [← hlen, pow_add]
  have hlow : w.toNat % 2 ^ 27 = w.toNat % 2 ^ lo + 2 ^ lo * (w.toNat / 2 ^ lo % 2 ^ len) := by
    rw [hpow, Nat.mod_mul]
  have hle : 2 ^ lo ≤ 2 ^ 27 := Nat.pow_le_pow_right (by decide) (by omega)
  constructor
  · intro hw
    have hlo : w.toNat % 2 ^ 27 = x := by omega
    have hx' : w.toNat % 2 ^ lo = x := by
      rw [← Nat.mod_eq_of_lt hx, ← hlo, hpow, Nat.mod_mul_right_mod]
    have hzero : 2 ^ lo * (w.toNat / 2 ^ lo % 2 ^ len) = 0 := by omega
    exact ⟨by omega, by simpa using hzero, hx'⟩
  · rintro ⟨hn, hzero, hx'⟩
    rw [hzero, hx'] at hlow
    omega

theorem direction_code_eq_iff (c : BitVec 2) (d : Direction) : directionOfCode c = some d ↔ c = d.code := by
  cases d <;> revert c <;> decide

theorem mode_code_modeOfCode (c : BitVec 1) : (modeOfCode c).code = c := by revert c; decide

theorem keysOfBits_injective : Function.Injective keysOfBits := by
  intro a b h
  simp only [keysOfBits, Keys.mk.injEq] at h
  obtain ⟨h0, h1, h2, h3, h4, h5, h6, h7⟩ := h
  apply BitVec.eq_of_getLsbD_eq
  intro i hi
  interval_cases i <;> assumption

theorem bits_keysOfBits (b : BitVec 8) : (keysOfBits b).bits = b := keysOfBits_injective (keysOfBits_bits _)

theorem signedPercent_sext16 (f : BitVec 16) : SignedPercent (sext16 f) := by
  have := BitVec.le_toInt f
  have := BitVec.toInt_lt (x := f)
  unfold sext16 SignedPercent
  omega

theorem sext16_ofInt {p : Int} (hp : SignedPercent p) : sext16 (BitVec.ofInt 16 p) = p := by
  unfold SignedPercent at hp
  rw [sext16, BitVec.toInt_ofInt, Int.bmod_eq_of_le (by omega) (by omega)]

/-! ### The words of each format (R81) -/

theorem eq_encodeN_iff (w : Word) (op : BitVec 5) : w = encodeN op ↔ opcode w = op ∧ field w 0 27 = 0 := by
  rw [← BitVec.toNat_inj, encodeN_toNat, ← BitVec.toNat_inj (x := opcode w)]
  have h := word_toNat_eq_iff w (lo := 0) (len := 27) rfl (n := op.toNat) (x := 0) (by decide)
  have hnone : (field w 0 0).toNat = 0 := by rw [field_toNat]; omega
  simpa [hnone] using h

theorem eq_encodeD_iff (w : Word) (op : BitVec 5) (d : Direction) :
    w = encodeD op d ↔ opcode w = op ∧ field w 2 25 = 0 ∧ field w 0 2 = d.code := by
  rw [← BitVec.toNat_inj, encodeD_toNat, ← BitVec.toNat_inj (x := opcode w), ← BitVec.toNat_inj (y := d.code)]
  exact word_toNat_eq_iff w rfl d.code.isLt

theorem eq_encodeS_iff (w : Word) (op : BitVec 5) (p : Int) :
    w = encodeS op p ↔ opcode w = op ∧ field w 16 11 = 0 ∧ field w 0 16 = BitVec.ofInt 16 p := by
  rw [← BitVec.toNat_inj, encodeS_toNat, ← BitVec.toNat_inj (x := opcode w),
    ← BitVec.toNat_inj (y := BitVec.ofInt 16 p)]
  exact word_toNat_eq_iff w rfl (BitVec.isLt _)

theorem eq_encodeU_iff (w : Word) (op : BitVec 5) (m : Nat) :
    w = encodeU op m ↔ opcode w = op ∧ field w 16 11 = 0 ∧ field w 0 16 = BitVec.ofNat 16 m := by
  rw [← BitVec.toNat_inj, encodeU_toNat, ← BitVec.toNat_inj (x := opcode w),
    ← BitVec.toNat_inj (y := BitVec.ofNat 16 m), BitVec.toNat_ofNat]
  exact word_toNat_eq_iff w rfl (Nat.mod_lt _ (by decide))

theorem eq_encodeK_iff (w : Word) (op : BitVec 5) (k : Keys) :
    w = encodeK op k ↔ opcode w = op ∧ field w 8 19 = 0 ∧ field w 0 8 = k.bits := by
  rw [← BitVec.toNat_inj, encodeK_toNat, ← BitVec.toNat_inj (x := opcode w), ← BitVec.toNat_inj (y := k.bits)]
  exact word_toNat_eq_iff w rfl k.bits.isLt

theorem eq_encodeM_iff (w : Word) (op : BitVec 5) (m : Mode) :
    w = encodeM op m ↔ opcode w = op ∧ field w 1 26 = 0 ∧ field w 0 1 = m.code := by
  rw [← BitVec.toNat_inj, encodeM_toNat, ← BitVec.toNat_inj (x := opcode w), ← BitVec.toNat_inj (y := m.code)]
  exact word_toNat_eq_iff w rfl m.code.isLt

/-- Format B has no reserved bit: four operand fields under the opcode (R84). -/
theorem eq_encodeB_iff (w : Word) (op : BitVec 5) (slot : Fin 4) (v : Bool) (x y : BitVec 12) :
    w = encodeB op slot v x y
      ↔ opcode w = op ∧ (field w 25 2).toFin = slot ∧ w.getLsbD 24 = v ∧ field w 12 12 = x ∧ field w 0 12 = y := by
  have hbit : w.getLsbD 24 = v ↔ w.toNat / 2 ^ 24 % 2 = v.toNat := by
    rw [← Nat.toNat_testBit, ← BitVec.getLsbD]
    cases v <;> cases w.getLsbD 24 <;> decide
  have hslot : (field w 25 2).toFin = slot ↔ w.toNat / 2 ^ 25 % 2 ^ 2 = slot.val := by
    rw [Fin.ext_iff, ← field_toNat]
    rfl
  rw [← BitVec.toNat_inj, encodeB_toNat, ← BitVec.toNat_inj (x := opcode w), ← BitVec.toNat_inj (y := x),
    ← BitVec.toNat_inj (y := y), hslot, hbit, opcode_toNat, field_toNat, field_toNat]
  have := Bool.toNat_le v
  have := slot.isLt
  have := x.isLt
  have := y.isLt
  omega

/-! ### What each format's decoder accepts: the words of its encoder (R81, R88) -/

section
variable {w : Word} {op : BitVec 5} (hop : opcode w = op)
include hop

theorem decodeN_ok_iff (i j : Instr) : decodeN w i = .ok j ↔ w = encodeN op ∧ i = j := by
  rw [decodeN, reservedZero_eq_ok_iff, eq_encodeN_iff]
  simp [hop]

theorem decodeD_ok_iff (f : Direction → Instr) (j : Instr) :
    decodeD w f = .ok j ↔ ∃ d, w = encodeD op d ∧ f d = j := by
  simp only [eq_encodeD_iff, ← direction_code_eq_iff, decodeD]
  cases directionOfCode (field w 0 2) <;> simp [reservedZero_eq_ok_iff, hop]

theorem decodeS_ok_iff (f : Int → Instr) (j : Instr) :
    decodeS w f = .ok j ↔ ∃ p, SignedPercent p ∧ w = encodeS op p ∧ f p = j := by
  simp only [eq_encodeS_iff, decodeS, reservedZero_eq_ok_iff, hop, true_and]
  constructor
  · rintro ⟨hzero, rfl⟩
    exact ⟨_, signedPercent_sext16 _, ⟨hzero, (BitVec.ofInt_toInt).symm⟩, rfl⟩
  · rintro ⟨p, hp, ⟨hzero, hfield⟩, rfl⟩
    exact ⟨hzero, by rw [hfield, sext16_ofInt hp]⟩

theorem decodeU_ok_iff (f : Nat → Instr) (j : Instr) :
    decodeU w f = .ok j ↔ ∃ m, Magnitude m ∧ w = encodeU op m ∧ f m = j := by
  simp only [eq_encodeU_iff, decodeU, reservedZero_eq_ok_iff, hop, true_and, zext16]
  constructor
  · rintro ⟨hzero, rfl⟩
    exact ⟨_, Nat.le_of_lt_succ (BitVec.isLt _), ⟨hzero, by simp⟩, rfl⟩
  · rintro ⟨m, hm, ⟨hzero, hfield⟩, rfl⟩
    exact ⟨hzero, by rw [hfield, BitVec.toNat_ofNat, Nat.mod_eq_of_lt (Nat.lt_succ_of_le hm)]⟩

theorem decodeK_ok_iff (f : Keys → Instr) (j : Instr) :
    decodeK w f = .ok j ↔ ∃ k, w = encodeK op k ∧ f k = j := by
  simp only [eq_encodeK_iff, decodeK, reservedZero_eq_ok_iff, hop, true_and]
  constructor
  · rintro ⟨hzero, rfl⟩
    exact ⟨_, ⟨hzero, (bits_keysOfBits _).symm⟩, rfl⟩
  · rintro ⟨k, ⟨hzero, hfield⟩, rfl⟩
    exact ⟨hzero, by rw [hfield, keysOfBits_bits]⟩

theorem decodeM_ok_iff (f : Mode → Instr) (j : Instr) :
    decodeM w f = .ok j ↔ ∃ m, w = encodeM op m ∧ f m = j := by
  simp only [eq_encodeM_iff, decodeM, reservedZero_eq_ok_iff, hop, true_and]
  constructor
  · rintro ⟨hzero, rfl⟩
    exact ⟨_, ⟨hzero, (mode_code_modeOfCode _).symm⟩, rfl⟩
  · rintro ⟨m, ⟨hzero, hfield⟩, rfl⟩
    exact ⟨hzero, by rw [hfield, modeOfCode_code]⟩

theorem decodeB_ok_iff (j : Instr) :
    decodeB w = .ok j ↔ ∃ slot v x y, w = encodeB op slot v x y ∧ .bslot slot v x y = j := by
  simp only [eq_encodeB_iff, decodeB, hop, true_and, Except.ok.injEq]
  constructor
  · rintro rfl
    exact ⟨_, _, _, _, ⟨rfl, rfl, rfl, rfl⟩, rfl⟩
  · rintro ⟨_, _, _, _, ⟨rfl, rfl, rfl, rfl⟩, rfl⟩
    rfl

end

/-! ### The two round trips -/

/-- Every format puts its opcode in bits [31:27]. -/
theorem opcode_encodeN (op : BitVec 5) : opcode (encodeN op) = op := ((eq_encodeN_iff _ op).1 rfl).1

theorem opcode_encodeD (op : BitVec 5) (d : Direction) : opcode (encodeD op d) = op := ((eq_encodeD_iff _ op d).1 rfl).1

theorem opcode_encodeS (op : BitVec 5) (p : Int) : opcode (encodeS op p) = op := ((eq_encodeS_iff _ op p).1 rfl).1

theorem opcode_encodeU (op : BitVec 5) (m : Nat) : opcode (encodeU op m) = op := ((eq_encodeU_iff _ op m).1 rfl).1

theorem opcode_encodeB (op : BitVec 5) (slot : Fin 4) (v : Bool) (x y : BitVec 12) :
    opcode (encodeB op slot v x y) = op := ((eq_encodeB_iff _ op slot v x y).1 rfl).1

theorem opcode_encodeK (op : BitVec 5) (k : Keys) : opcode (encodeK op k) = op := ((eq_encodeK_iff _ op k).1 rfl).1

theorem opcode_encodeM (op : BitVec 5) (m : Mode) : opcode (encodeM op m) = op := ((eq_encodeM_iff _ op m).1 rfl).1

theorem opcode_eq_of_toNat {w : Word} {n : Nat} (hop : (opcode w).toNat = n) : opcode w = BitVec.ofNat 5 n := by
  simp [← hop]

/-- The decoder gives the command back: its opcode selects the row, and the row's format keeps every operand. -/
theorem decode_encode {i : Instr} (hi : i.WellFormed) : decode (encode i) = .ok i := by
  cases i
  case nop | inc | dec | enable | disable | turnoff | bclr | track =>
    simp only [encode, decode, opcode_encodeN]
    exact (decodeN_ok_iff (opcode_encodeN _) _ _).2 ⟨rfl, rfl⟩
  case setdir d =>
    simp only [encode, decode, opcode_encodeD]
    exact (decodeD_ok_iff (opcode_encodeD _ d) _ _).2 ⟨d, rfl, rfl⟩
  case snapspd p | snaprot p =>
    simp only [encode, decode, opcode_encodeS]
    exact (decodeS_ok_iff (opcode_encodeS _ p) _ _).2 ⟨p, of_decide_eq_true hi, rfl, rfl⟩
  case rotr m | rotl m =>
    simp only [encode, decode, opcode_encodeU]
    exact (decodeU_ok_iff (opcode_encodeU _ m) _ _).2 ⟨m, of_decide_eq_true hi, rfl, rfl⟩
  case bslot slot v x y =>
    simp only [encode, decode, opcode_encodeB]
    exact (decodeB_ok_iff (opcode_encodeB _ slot v x y) _).2 ⟨slot, v, x, y, rfl, rfl⟩
  case manual k | cycle k =>
    simp only [encode, decode, opcode_encodeK]
    exact (decodeK_ok_iff (opcode_encodeK _ k) _ _).2 ⟨k, rfl, rfl⟩
  case setmode m =>
    simp only [encode, decode, opcode_encodeM]
    exact (decodeM_ok_iff (opcode_encodeM _ m) _ _).2 ⟨m, rfl, rfl⟩

theorem decode_eq_of_encode {w : Word} {i : Instr} (hw : encode i = w) (hi : i.WellFormed) : decode w = .ok i :=
  hw ▸ decode_encode hi

/-- A word the decoder accepts is the encoding of its command, row by row of R89. -/
theorem wellFormed_and_encode_of_decode {w : Word} {i : Instr} (h : decode w = .ok i) :
    i.WellFormed ∧ encode i = w := by
  unfold decode at h
  split at h
  case h_1 hop | h_3 hop | h_4 hop | h_9 hop | h_10 hop | h_11 hop | h_12 hop | h_14 hop =>
    obtain ⟨rfl, rfl⟩ := (decodeN_ok_iff (opcode_eq_of_toNat hop) _ _).1 h
    exact ⟨rfl, rfl⟩
  case h_2 hop =>
    obtain ⟨d, rfl, rfl⟩ := (decodeD_ok_iff (opcode_eq_of_toNat hop) _ _).1 h
    exact ⟨rfl, rfl⟩
  case h_5 hop | h_8 hop =>
    obtain ⟨p, hp, rfl, rfl⟩ := (decodeS_ok_iff (opcode_eq_of_toNat hop) _ _).1 h
    exact ⟨decide_eq_true hp, rfl⟩
  case h_6 hop | h_7 hop =>
    obtain ⟨m, hm, rfl, rfl⟩ := (decodeU_ok_iff (opcode_eq_of_toNat hop) _ _).1 h
    exact ⟨decide_eq_true hm, rfl⟩
  case h_13 hop =>
    obtain ⟨slot, v, x, y, rfl, rfl⟩ := (decodeB_ok_iff (opcode_eq_of_toNat hop) _).1 h
    exact ⟨rfl, rfl⟩
  case h_15 hop | h_17 hop =>
    obtain ⟨k, rfl, rfl⟩ := (decodeK_ok_iff (opcode_eq_of_toNat hop) _ _).1 h
    exact ⟨rfl, rfl⟩
  case h_16 hop =>
    obtain ⟨m, rfl, rfl⟩ := (decodeM_ok_iff (opcode_eq_of_toNat hop) _ _).1 h
    exact ⟨rfl, rfl⟩
  case h_18 => cases h

/-! ### The opcode map (R89, R91) -/

/-- Every row compares the whole opcode. -/
theorem opcode_mask_of_mem : ∀ r ∈ opcodeTable, opcode r.mask = BitVec.allOnes 5 := by decide

/-- A word of a row has the row's opcode. -/
theorem opcode_eq_of_matches {r : OpcodeRow} {w : Word} (hr : r ∈ opcodeTable) (h : r.Matches w) :
    opcode w = opcode r.pattern := by
  have hand : opcode (w &&& r.mask) = opcode w &&& opcode r.mask := BitVec.extractLsb'_and
  rw [OpcodeRow.Matches] at h
  rw [← h, hand, opcode_mask_of_mem r hr, BitVec.and_allOnes]

/-- No two rows share an opcode. -/
theorem opcodeRow_unique :
    ∀ r ∈ opcodeTable, ∀ r' ∈ opcodeTable, opcode r.pattern = opcode r'.pattern → r = r' := by decide

/-- The row of every command matches its word (`Laws.EncodesInItsRow`, constructor by constructor). -/
theorem encodesInItsRow (i : Instr) : Laws.EncodesInItsRow.Statement i := by
  cases i with
  | nop => exact Laws.EncodesInItsRow.nop
  | setdir d => exact Laws.EncodesInItsRow.setdir d
  | inc => exact Laws.EncodesInItsRow.inc
  | dec => exact Laws.EncodesInItsRow.dec
  | snapspd p => exact Laws.EncodesInItsRow.snapspd p
  | rotr m => exact Laws.EncodesInItsRow.rotr m
  | rotl m => exact Laws.EncodesInItsRow.rotl m
  | snaprot p => exact Laws.EncodesInItsRow.snaprot p
  | enable => exact Laws.EncodesInItsRow.enable
  | disable => exact Laws.EncodesInItsRow.disable
  | turnoff => exact Laws.EncodesInItsRow.turnoff
  | bclr => exact Laws.EncodesInItsRow.bclr
  | bslot slot v x y => exact Laws.EncodesInItsRow.bslot slot v x y
  | track => exact Laws.EncodesInItsRow.track
  | manual k => exact Laws.EncodesInItsRow.manual k
  | setmode m => exact Laws.EncodesInItsRow.setmode m
  | cycle k => exact Laws.EncodesInItsRow.cycle k

theorem row_matches_of_decode {w : Word} {i : Instr} (h : decode w = .ok i) :
    i.row ∈ opcodeTable ∧ i.row.Matches w := by
  obtain ⟨-, rfl⟩ := wellFormed_and_encode_of_decode h
  exact encodesInItsRow i

/-- The mask columns and the formats say the same: a row's mask holds the reserved bits of the format that R81 gives
its opcode, its pattern has them 0, and SETDIR is opcode 1. -/
theorem format_of_row : ∀ r ∈ opcodeTable, ∃ p ∈ opcodeFormats, p.1 = opcode r.pattern
    ∧ r.mask &&& reservedMask p.2 = reservedMask p.2 ∧ r.pattern &&& reservedMask p.2 = 0
    ∧ (r.mnemonic = "SETDIR" ↔ p.1.toNat = 1) := by decide

/-- A word that matches a row is illegal only as SETDIR with 0b11 (R88(c)). -/
theorem illegalWord_iff_of_matches {r : OpcodeRow} {w : Word} (hr : r ∈ opcodeTable) (h : r.Matches w) :
    IllegalWord w ↔ r.mnemonic = "SETDIR" ∧ w &&& 3 = 3 := by
  obtain ⟨⟨op, f⟩, hmem, hop, hmask, hpattern, hsetdir⟩ := format_of_row r hr
  have hopcode : (opcode w).toNat = op.toNat := by rw [opcode_eq_of_matches hr h, ← hop]
  have hreserved : w &&& reservedMask f = 0 := by
    rw [OpcodeRow.Matches] at h
    rw [← hmask, ← BitVec.and_assoc, h, hpattern]
  rw [illegalWord_iff_of_opcode hopcode (by simpa using hmem), hsetdir]
  simp [hreserved]

theorem illegalWord_iff_not_legalWord (w : Word) : IllegalWord w ↔ ¬ LegalWord w := by
  constructor
  · rintro hw ⟨r, hr, hmatch, hsetdir⟩
    exact hsetdir ((illegalWord_iff_of_matches hr hmatch).1 hw)
  · intro hnone
    by_contra hw
    obtain ⟨i, hi⟩ : ∃ i, decode w = .ok i := by
      cases hdec : decode w with
      | ok i => exact ⟨i, rfl⟩
      | error e => exact absurd ((decode_error_iff_illegalWord w).1 ⟨e, hdec⟩) hw
    obtain ⟨hr, hmatch⟩ := row_matches_of_decode hi
    exact hnone ⟨i.row, hr, hmatch, mt (illegalWord_iff_of_matches hr hmatch).2 hw⟩

/-! ### The byte-serial transport (20_memory.md R64) -/

/-- The four bytes of a word put together give the word. -/
theorem wordOfBytes_fields (w : Word) :
    wordOfBytes (field w 0 8) (field w 8 8) (field w 16 8) (field w 24 8) = w := by
  apply BitVec.eq_of_toNat_eq
  simp only [wordOfBytes_toNat, field_toNat]
  have := w.isLt
  omega

theorem decodeBytes_wordBytes (w : Word) (rest : List Byte) :
    decodeBytes (wordBytes w ++ rest) = (decode w).map (·, rest) := by
  simp only [wordBytes, List.cons_append, List.nil_append, decodeBytes, wordOfBytes_fields]
  cases decode w <;> rfl

end Sys2Proof

namespace Sys2Proof.Proofs

/-- Settles O1, format by format: the opcode selects the row, and the fields hold the operands. -/
theorem decodeOfEncodeIsTheCommand : Obligations.DecodeOfEncodeIsTheCommand := by
  unfold Obligations.DecodeOfEncodeIsTheCommand
  exact fun _ => decode_encode

/-- Settles O2, by the rows of the decoder: each format accepts only the words its encoder gives. -/
theorem encodeOfDecodeIsTheWord : Obligations.EncodeOfDecodeIsTheWord := by
  unfold Obligations.EncodeOfDecodeIsTheWord
  exact fun _ _ => wellFormed_and_encode_of_decode

/-- Settles O3: a word that a row matches is illegal only as SETDIR with 0b11, and a word that decodes matches the row
of its command. -/
theorem decoderRefusesExactlyTheIllegalWords : Obligations.DecoderRefusesExactlyTheIllegalWords := by
  unfold Obligations.DecoderRefusesExactlyTheIllegalWords
  exact fun w => ⟨decode_error_iff_illegalWord w, illegalWord_iff_not_legalWord w⟩

/-- Settles O4: every row compares the opcode, which no two rows share; a legal word is the encoding of its command,
which matches the command's row. -/
theorem everyLegalWordIsOfOneRow : Obligations.EveryLegalWordIsOfOneRow := by
  unfold Obligations.EveryLegalWordIsOfOneRow
  refine fun w => ⟨fun r hr r' hr' h h' => opcodeRow_unique r hr r' hr' ?_, fun _ => row_matches_of_decode⟩
  rw [← opcode_eq_of_matches hr h, opcode_eq_of_matches hr' h']

/-- Settles O5: each printed word is the encoding of the well-formed command it is listed for. -/
theorem printedWordsDecodeAsListed : Obligations.PrintedWordsDecodeAsListed := by
  unfold Obligations.PrintedWordsDecodeAsListed
  and_intros <;> exact decode_eq_of_encode rfl rfl

/-- Settles O6: the bytes of a word, put together in travel order, are the word again. -/
theorem transportBytesTravelLeastSignificantFirst : Obligations.TransportBytesTravelLeastSignificantFirst := by
  unfold Obligations.TransportBytesTravelLeastSignificantFirst
  refine ⟨fun b0 b1 b2 b3 => ?_, fun w i rest h => ?_, fun w e rest h => ?_⟩
  · rw [wordOfBytes_toNat]
    omega
  · rw [decodeBytes_wordBytes, h]
    rfl
  · rw [decodeBytes_wordBytes, h]
    rfl

end Sys2Proof.Proofs
end

section
/-! PROOFS. The rounding of 10_state.md R24, the two output encoders (40_actuator.md R111, R112), and the properties of
the speed law (41_tracking.md R163). -/

namespace Sys2Proof.Machine

/-! ### Rounding (10_state.md R24) -/

/-- What a mode makes of an exact tie between `k` and `k + 1` (R24). -/
def tieValue : RoundMode → Nat → Nat
  | .halfEven, k => k + k % 2
  | .halfUp, k => k + 1

theorem tieValue_bounds (mode : RoundMode) (k : Nat) : k ≤ tieValue mode k ∧ tieValue mode k ≤ k + 1 := by
  cases mode <;> simp only [tieValue] <;> omega

/-- The rounding below the half, above it, and at it. -/
theorem roundDiv_eq (mode : RoundMode) (num den : Nat) :
    roundDiv mode num den
      = if 2 * (num % den) < den then num / den
        else if den < 2 * (num % den) then num / den + 1
        else tieValue mode (num / den) := by
  unfold roundDiv
  cases mode with
  | halfUp => rfl
  | halfEven =>
    have htie : (if num / den % 2 = 0 then num / den else num / den + 1) = tieValue .halfEven (num / den) := by
      rw [tieValue]
      split <;> omega
    simp only [htie]

theorem roundDiv_cases (mode : RoundMode) (num den : Nat) :
    (2 * (num % den) < den ∧ roundDiv mode num den = num / den)
      ∨ (den < 2 * (num % den) ∧ roundDiv mode num den = num / den + 1)
      ∨ (2 * (num % den) = den ∧ roundDiv mode num den = tieValue mode (num / den)) := by
  rw [roundDiv_eq]
  split_ifs <;> omega

/-- The rounded quotient is the quotient or the next integer. -/
theorem roundDiv_bounds (mode : RoundMode) (num den : Nat) :
    num / den ≤ roundDiv mode num den ∧ roundDiv mode num den ≤ num / den + 1 := by
  have htie := tieValue_bounds mode (num / den)
  rw [roundDiv_eq]
  split_ifs <;> omega

/-- The signed distance to the rounded multiple: the remainder when the quotient was taken, and what the remainder
lacks to the denominator when the next integer was. -/
theorem sub_roundDiv_mul (mode : RoundMode) (num den : Nat) :
    (roundDiv mode num den = num / den ∧ (num : Int) - (roundDiv mode num den * den : Nat) = (num % den : Nat))
      ∨ (roundDiv mode num den = num / den + 1
          ∧ (num : Int) - (roundDiv mode num den * den : Nat) = (num % den : Nat) - (den : Int)) := by
  have hdiv : num / den * den + num % den = num := Nat.div_add_mod' num den
  obtain ⟨hlow, hhigh⟩ := roundDiv_bounds mode num den
  obtain hsame | hnext : roundDiv mode num den = num / den ∨ roundDiv mode num den = num / den + 1 := by omega
  · exact .inl ⟨hsame, by rw [hsame]; omega⟩
  · exact .inr ⟨hnext, by rw [hnext, Nat.add_one_mul]; omega⟩

/-- The rounded value is a nearest integer. -/
theorem roundDiv_nearest (mode : RoundMode) (num : Nat) {den : Nat} (hden : 0 < den) :
    2 * ((num : Int) - (roundDiv mode num den * den : Nat)).natAbs ≤ den := by
  have hrem := Nat.mod_lt num hden
  have hdist := sub_roundDiv_mul mode num den
  obtain ⟨hbelow, hval⟩ | ⟨habove, hval⟩ | ⟨htie, -⟩ := roundDiv_cases mode num den <;> omega

/-- A distance of exactly one half is a tie of the division. -/
theorem tie_of_distance_eq {mode : RoundMode} {num den : Nat} (hden : 0 < den)
    (h : 2 * ((num : Int) - (roundDiv mode num den * den : Nat)).natAbs = den) :
    2 * (num % den) = den ∧ roundDiv mode num den = tieValue mode (num / den) := by
  have hrem := Nat.mod_lt num hden
  have hdist := sub_roundDiv_mul mode num den
  obtain ⟨hbelow, hval⟩ | ⟨habove, hval⟩ | htie := roundDiv_cases mode num den
  · omega
  · omega
  · exact htie

/-- A greater numerator never rounds lower. -/
theorem roundDiv_mono (mode : RoundMode) (den : Nat) {num num' : Nat} (h : num ≤ num') :
    roundDiv mode num den ≤ roundDiv mode num' den := by
  obtain heq | hlt := (Nat.div_le_div_right h : num / den ≤ num' / den).eq_or_lt
  · have hrem : num % den ≤ num' % den := by
      have hdiv : num / den * den + num % den = num := Nat.div_add_mod' num den
      have hdiv' : num' / den * den + num' % den = num' := Nat.div_add_mod' num' den
      rw [heq] at hdiv
      omega
    have htie := tieValue_bounds mode (num' / den)
    rw [roundDiv_eq, roundDiv_eq, heq]
    split_ifs <;> omega
  · calc roundDiv mode num den ≤ num / den + 1 := (roundDiv_bounds mode num den).2
      _ ≤ num' / den := hlt
      _ ≤ roundDiv mode num' den := (roundDiv_bounds mode num' den).1

/-- An exact quotient is not rounded. -/
theorem roundDiv_mul_self (mode : RoundMode) (k : Nat) {den : Nat} (hden : 0 < den) :
    roundDiv mode (k * den) den = k := by
  rw [roundDiv_eq, Nat.mul_mod_left, Nat.mul_div_cancel k hden, if_pos (by omega)]

theorem roundDiv_le_of_le_mul (mode : RoundMode) {num k den : Nat} (hden : 0 < den) (h : num ≤ k * den) :
    roundDiv mode num den ≤ k :=
  (roundDiv_mono mode den h).trans_eq (roundDiv_mul_self mode k hden)

/-! ### The output encoders (40_actuator.md R111, R112) -/

theorem spdByte_mono (c : Config) {q q' : Nat} (h : q ≤ q') : spdByte c q ≤ spdByte c q' :=
  roundDiv_mono _ _ (Nat.mul_le_mul_right _ h)

/-- Full speed is exactly SPD_FULL. -/
theorem spdByte_spdMaxQ {c : Config} (hc : 1 ≤ c.closestSep) : spdByte c (spdMaxQ c) = c.spdFull := by
  have hden : 0 < 100 * spdDen c := Nat.mul_pos (by decide) (spdDen_pos hc)
  rw [spdByte, spdMaxQ, Nat.mul_comm _ c.spdFull, roundDiv_mul_self _ _ hden]

theorem spdByte_le_spdFull {c : Config} (hc : 1 ≤ c.closestSep) {q : Nat} (hq : q ≤ spdMaxQ c) :
    spdByte c q ≤ c.spdFull :=
  (spdByte_mono c hq).trans_eq (spdByte_spdMaxQ hc)

theorem servoTick_mono (c : Config) {q q' : Nat} (h : q ≤ q') : servoTick c q ≤ servoTick c q' :=
  roundDiv_mono _ _ (Nat.mul_le_mul_right _ (Nat.add_le_add_right (Nat.mul_le_mul_left _ h) _))

/-- A duty of at most 100 % at Rotation 100 keeps every tick within PWM_FULL. -/
theorem servoTick_le_pwmFull {c : Config} (hx : 1 ≤ c.xMax) (hslope : 1 ≤ c.servoSlopeDen)
    (hduty : 100 * c.servoSlopeNum + c.servoBase * c.servoSlopeDen ≤ 100 * c.servoSlopeDen) {q : Nat}
    (hq : q ≤ rotMaxQ c) : servoTick c q ≤ c.pwmFull := by
  have hden : 0 < 100 * (c.servoSlopeDen * rotDen c) :=
    Nat.mul_pos (by decide) (Nat.mul_pos hslope (rotDen_pos hx))
  refine roundDiv_le_of_le_mul _ hden ?_
  rw [Nat.mul_comm c.pwmFull]
  refine Nat.mul_le_mul_right _ ?_
  calc c.servoSlopeNum * q + c.servoBase * (c.servoSlopeDen * rotDen c)
      ≤ c.servoSlopeNum * (100 * rotDen c) + c.servoBase * (c.servoSlopeDen * rotDen c) :=
        Nat.add_le_add_right (Nat.mul_le_mul_left _ hq) _
    _ = (100 * c.servoSlopeNum + c.servoBase * c.servoSlopeDen) * rotDen c := by ring
    _ ≤ 100 * c.servoSlopeDen * rotDen c := Nat.mul_le_mul_right _ hduty
    _ = 100 * (c.servoSlopeDen * rotDen c) := by ring

/-! ### The speed law (41_tracking.md R163) -/

/-- The three regions of the law, in SPEED_Q units of CLOSEST_SEP. -/
theorem speedFromSeparationQ_cases (c : Config) (sep : Nat) :
    (c.closestSep ≤ sep ∧ speedFromSeparationQ c sep = 0)
      ∨ (sep < c.closestSep ∧ 3 * c.closestSep ≤ 4 * sep ∧ speedFromSeparationQ c sep = 50 * c.closestSep)
      ∨ (4 * sep < 3 * c.closestSep ∧ speedFromSeparationQ c sep = 200 * (c.closestSep - sep)) := by
  by_cases hfar : c.closestSep ≤ sep
  · exact .inl ⟨hfar, speedFromSeparationQ_of_closestSep_le hfar⟩
  rw [not_le] at hfar
  by_cases hfloor : 3 * c.closestSep ≤ 4 * sep
  · refine .inr (.inl ⟨hfar, hfloor, ?_⟩)
    rw [speedFromSeparationQ_plateau hfar hfloor, spdDen]
    omega
  · rw [not_le] at hfloor
    exact .inr (.inr ⟨hfloor, speedFromSeparationQ_ramp hfloor⟩)

theorem speedFromSeparationQ_antitone (c : Config) {sep sep' : Nat} (h : sep ≤ sep') :
    speedFromSeparationQ c sep' ≤ speedFromSeparationQ c sep := by
  obtain ⟨_, _⟩ | ⟨_, _, _⟩ | ⟨_, _⟩ := speedFromSeparationQ_cases c sep <;>
    obtain ⟨_, _⟩ | ⟨_, _, _⟩ | ⟨_, _⟩ := speedFromSeparationQ_cases c sep' <;> omega

/-- The law is even in every region, so its half is exact. -/
theorem speedFromSeparationQ_even (c : Config) (sep : Nat) : speedFromSeparationQ c sep % 2 = 0 := by
  obtain ⟨_, heq⟩ | ⟨_, _, heq⟩ | ⟨_, heq⟩ := speedFromSeparationQ_cases c sep <;> omega

/-- At separation 0 the law is full speed, and nowhere more. -/
theorem speedFromSeparationQ_le (c : Config) (sep : Nat) : speedFromSeparationQ c sep ≤ spdMaxQ c := by
  unfold spdMaxQ spdDen
  obtain ⟨_, heq⟩ | ⟨_, _, heq⟩ | ⟨_, heq⟩ := speedFromSeparationQ_cases c sep <;> omega

end Sys2Proof.Machine

namespace Sys2Proof.Proofs

open Sys2Proof.Machine

/-- Settles O18: the rounded value is the quotient or the next integer, decided by the remainder; only at a tie does
the mode decide. -/
theorem roundingTakesTheNearestInteger : Obligations.RoundingTakesTheNearestInteger := by
  unfold Obligations.RoundingTakesTheNearestInteger
  refine fun num den hden => ⟨fun mode => roundDiv_nearest mode num hden, fun h => ?even, fun h => ?up,
    fun hne => ?agree⟩
  case even =>
    obtain ⟨-, hval⟩ := tie_of_distance_eq hden h
    rw [hval, tieValue]
    omega
  case up =>
    obtain ⟨-, hval⟩ := tie_of_distance_eq hden h
    rw [hval, tieValue, Nat.mul_comm]
    exact Nat.lt_mul_div_succ num hden
  case agree =>
    by_contra hno
    rw [roundDiv_eq, roundDiv_eq] at hne
    split_ifs at hne <;> omega

/-- Settles O19: rounding is monotone, and full speed is an exact quotient. -/
theorem speedByteIsMonotoneFromZeroToFull : Obligations.SpeedByteIsMonotoneFromZeroToFull := by
  unfold Obligations.SpeedByteIsMonotoneFromZeroToFull
  exact fun c hc => ⟨spdByte_zero hc, spdByte_spdMaxQ hc, fun _ _ => spdByte_mono c, fun _ => spdByte_le_spdFull hc⟩

/-- Settles O20: rounding is monotone, and a duty of 100 % is the exact quotient PWM_FULL. -/
theorem servoTickIsMonotoneAndInRange : Obligations.ServoTickIsMonotoneAndInRange := by
  unfold Obligations.ServoTickIsMonotoneAndInRange
  exact fun c hx hslope => ⟨fun _ _ => servoTick_mono c, fun hduty _ => servoTick_le_pwmFull hx hslope hduty⟩

/-- Settles O22, by the three regions: the plateau is a quarter of full speed, which the ramp reaches at 0.75*C. -/
theorem speedLawNeverIncreases : Obligations.SpeedLawNeverIncreases := by
  unfold Obligations.SpeedLawNeverIncreases
  refine fun c => ⟨fun _ _ => speedFromSeparationQ_antitone c, speedFromSeparationQ_even c,
    fun sep => ⟨speedFromSeparationQ_le c sep, ?half⟩, fun sep hmeet => ?meet,
    fun hc => ⟨speedFromSeparationQ_plateau (by omega) (by omega), speedFromSeparationQ_of_closestSep_le le_rfl⟩⟩
  case half =>
    have hle := speedFromSeparationQ_le c sep
    unfold spdMaxQ at hle
    omega
  case meet =>
    unfold spdDen
    omega

end Sys2Proof.Proofs
end

section
/-! PROOFS. What the drivers hold (70_reset_and_hazards.md R291, R293): unknown until an event of their kind, at rest
after TURNOFF, and known after the recommended boot. -/

namespace Sys2Proof.Machine

open Sys2Proof.Safety

/-! ### How a driver's view grows -/

theorem lastOf_append_of_none {α : Type} {pick : Event → Option α} {es more : List Event}
    (h : ∀ e ∈ more, pick e = none) : lastOf pick (es ++ more) = lastOf pick es := by
  rw [lastOf_append, foldl_latest_of_none pick _ more h]

/-- Events that bring a driver nothing or one value leave it as it was, when none of them reaches it, or at that
value. -/
theorem foldl_latest_of_const {α : Type} {pick : Event → Option α} {v : α} {es : List Event}
    (h : ∀ e ∈ es, pick e = none ∨ pick e = some v) (known : Option α) :
    (es.foldl (latest pick) known = known ∧ ∀ e ∈ es, pick e = none) ∨ es.foldl (latest pick) known = some v := by
  induction es generalizing known with
  | nil => exact .inl ⟨rfl, by simp⟩
  | cons e es ih =>
    obtain ⟨he, hes⟩ := List.forall_mem_cons.1 h
    rw [List.foldl_cons]
    obtain hnone | hsome := he
    · rw [latest_of_none hnone]
      exact (ih hes known).imp_left fun ⟨hkept, hall⟩ => ⟨hkept, List.forall_mem_cons.2 ⟨hnone, hall⟩⟩
    · rw [show latest pick known e = some v by simp [latest, hsome]]
      exact .inr ((ih hes (some v)).elim And.left id)

theorem runTo_eq_none {m : Motor} {e : Event} (h : ∀ sig, e ≠ .run m sig) : runTo m e = none := by
  cases e with
  | spd m' v => rfl
  | run m' sig => exact if_neg fun hm => h sig (by rw [hm])
  | pwm ch on off => rfl

theorem speedTo_eq_none {m : Motor} {e : Event} (h : ∀ v, e ≠ .spd m v) : speedTo m e = none := by
  cases e with
  | spd m' v => exact if_neg fun hm => h v (by rw [hm])
  | run m' sig => rfl
  | pwm ch on off => rfl

theorem tickTo_eq_none {ch : Nat} {e : Event} (h : ∀ on off, e ≠ .pwm ch on off) : tickTo ch e = none := by
  cases e with
  | spd m v => rfl
  | run m sig => rfl
  | pwm ch' on off => exact if_neg fun hch => h on off (by rw [hch])

/-! ### TURNOFF at the drivers (40_actuator.md R130) -/

theorem mem_pwmZeroes_iff {c : Config} {e : Event} :
    e ∈ pwmZeroes c ↔ c.pwmAttached = true ∧ ∃ ch < c.pwmChannels, e = .pwm ch 0 0 := by
  unfold pwmZeroes
  split
  case isTrue hpwm => simp [hpwm, eq_comm (a := e)]
  case isFalse hpwm => simp [hpwm]

/-- The last speed a TURNOFF sends either motor is 0: only PWM events follow it. -/
theorem motorSpeed_turnOff (m : Motor) (s : State) : motorSpeed m (turnOff s) = some (spdByte s.cfg 0) := by
  have hzeroes : ∀ e ∈ pwmZeroes s.cfg, speedTo m e = none := fun e he => by
    obtain ⟨-, ch, -, rfl⟩ := mem_pwmZeroes_iff.1 he
    rfl
  rw [motorSpeed, turnOff_eq, lastOf_append_of_none hzeroes, lastOf_append]
  cases m <;> simp [latest, speedTo]

/-- TURNOFF brings a channel the tick 0, or nothing when no zeroing event is for it. -/
theorem channelTick_turnOff_cases (ch : Nat) (s : State) :
    (channelTick ch (turnOff s) = channelTick ch s ∧ ∀ e ∈ pwmZeroes s.cfg, tickTo ch e = none)
      ∨ channelTick ch (turnOff s) = some 0 := by
  have hzero : ∀ e ∈ pwmZeroes s.cfg, tickTo ch e = none ∨ tickTo ch e = some 0 := fun e he => by
    obtain ⟨-, ch', -, rfl⟩ := mem_pwmZeroes_iff.1 he
    exact (ite_eq_or_eq (ch' = ch) (some 0) none).symm
  have hmotors : lastOf (tickTo ch) (s.events ++ [.run .m1 .release, .run .m2 .release, .spd .m1 (spdByte s.cfg 0),
      .spd .m2 (spdByte s.cfg 0)]) = channelTick ch s := lastOf_append_of_none (by simp [tickTo])
  rw [channelTick, turnOff_eq, lastOf_append, hmotors]
  exact foldl_latest_of_const hzero _

theorem channelTick_turnOff_of_attached {s : State} (hpwm : s.cfg.pwmAttached = true) {ch : Nat}
    (hch : ch < s.cfg.pwmChannels) : channelTick ch (turnOff s) = some 0 := by
  obtain ⟨-, hnone⟩ | hzero := channelTick_turnOff_cases ch s
  · have hmem : Event.pwm ch 0 0 ∈ pwmZeroes s.cfg := mem_pwmZeroes_iff.2 ⟨hpwm, ch, hch, rfl⟩
    simpa [tickTo] using hnone _ hmem
  · exact hzero

theorem channelTick_turnOff_of_not_attached {s : State} (hpwm : s.cfg.pwmAttached = false) (ch : Nat) :
    channelTick ch (turnOff s) = channelTick ch s := by
  have hnone : pwmZeroes s.cfg = [] := by simp [pwmZeroes, hpwm]
  rw [channelTick, turnOff_eq, hnone, List.append_nil, lastOf_append_of_none (by simp [tickTo])]
  rfl

/-! ### Snaps to a natural number (40_actuator.md R123, R127) -/

theorem snapRotateQ_natCast (q : Nat) (s : State) :
    snapRotateQ (q : Int) s = if q ≤ rotMaxQ s.cfg then writeRot q s else s := by
  obtain ⟨hout, heq⟩ | ⟨-, hin, heq⟩ := snapRotateQ_cases (q : Int) s
  · rw [if_neg (by omega), heq]
  · rw [Int.toNat_natCast] at hin heq
    rw [if_pos hin, heq]

/-- A speed in range is taken unless NEUTRAL. -/
theorem snapSpeedQ_natCast {q : Nat} {s : State} (hq : q ≤ spdMaxQ s.cfg) :
    snapSpeedQ (q : Int) s = if s.dir = .neutral then s else writeSpeed q s := by
  obtain ⟨hignored, heq⟩ | ⟨hmoving, -, -, heq⟩ := snapSpeedQ_cases (q : Int) s
  · rw [if_pos (hignored.resolve_right (by omega)), heq]
  · rw [if_neg hmoving, heq, Int.toNat_natCast]

/-- The tick a rotation write sends the steering channel. -/
theorem channelTick_writeRot (q : Nat) (s : State) :
    channelTick s.cfg.servoCh (writeRot q s) = some (servoTick s.cfg q) := by
  rw [channelTick, writeRot_events, lastOf_append]
  simp [latest, tickTo]

/-- A rotation write sends no motor anything. -/
theorem motorRun_writeRot (m : Motor) (q : Nat) (s : State) : motorRun m (writeRot q s) = motorRun m s := by
  rw [motorRun, writeRot_events, lastOf_append_of_none (by simp [runTo])]
  rfl

theorem motorRun_disableMotors (m : Motor) (s : State) : motorRun m (disableMotors s) = some .release :=
  motorRun_of_events_runEvents (by rw [disableMotors_eq]; rfl) m

end Sys2Proof.Machine

namespace Sys2Proof.Proofs

open Sys2Proof.Machine

/-- Settles O16: the reset stream is empty, and events that bring a driver nothing leave its view. -/
theorem driversAreUnknownUntilTheirFirstEvent : Obligations.DriversAreUnknownUntilTheirFirstEvent := by
  unfold Obligations.DriversAreUnknownUntilTheirFirstEvent
  refine ⟨fun _ _ _ => ⟨rfl, rfl, rfl⟩, fun s t es ht => ⟨fun m hes => ?_, fun m hes => ?_, fun ch hes => ?_⟩⟩
  · rw [motorRun, ht]
    exact lastOf_append_of_none fun e he => runTo_eq_none fun sig heq => hes sig (heq ▸ he)
  · rw [motorSpeed, ht]
    exact lastOf_append_of_none fun e he => speedTo_eq_none fun v heq => hes v (heq ▸ he)
  · rw [channelTick, ht]
    exact lastOf_append_of_none fun e he => tickTo_eq_none fun on off heq => hes on off (heq ▸ he)

/-- Settles O17: the centre is in range, so SNAPROT 50 is one rotation write, and it reaches no motor. -/
theorem recommendedBootMakesTheDriversKnown : Obligations.RecommendedBootMakesTheDriversKnown := by
  unfold Obligations.RecommendedBootMakesTheDriversKnown
  intro s hx
  have hcentre : 50 * rotDen s.cfg ≤ rotMaxQ s.cfg := Nat.mul_le_mul_right _ (by decide)
  have hboot : exec (.snaprot 50) (disableMotors s) = .next (writeRot (50 * rotDen s.cfg) (disableMotors s)) := by
    have hsnap := snapRotateQ_natCast (50 * rotDen s.cfg) (disableMotors s)
    rw [disableMotors_cfg, if_pos hcentre] at hsnap
    rw [exec_snaprot, disableMotors_cfg, ← hsnap]
    rfl
  refine ⟨_, _, exec_disable s, hboot, writeRot_rotQ_toNat _ _ hcentre hx, fun m => ?_,
    channelTick_writeRot _ (disableMotors s)⟩
  rw [motorRun_writeRot, motorRun_disableMotors]

/-- Settles O33: RELEASE and speed 0 are the last a TURNOFF sends each motor, and the zeroing events the last each
channel. -/
theorem turnoffLeavesTheDriversAtRest : Obligations.TurnoffLeavesTheDriversAtRest := by
  unfold Obligations.TurnoffLeavesTheDriversAtRest
  intro s t hc ht
  obtain rfl : turnOff s = t := by simpa using ht
  refine ⟨fun m => ⟨motorRun_turnOff m s, ?_⟩, fun hpwm ch hch => channelTick_turnOff_of_attached hpwm hch,
    channelTick_turnOff_of_not_attached⟩
  rw [motorSpeed_turnOff, spdByte_zero hc]

end Sys2Proof.Proofs
end

section
/-! PROOFS. The invariants over every step (10_state.md section 5, 40_actuator.md R131, 20_memory.md R67). What a
command writes is in range, so each invariant is a fact about one write at a time. -/

namespace Sys2Proof.Machine

open Sys2Proof.Safety

/-! ### The writes of a command, with the ranges the rules keep -/

/-- One write of a command's rule. NEUTRAL is written together with speed 0 (R120, R130); a speed is written while
moving only; a speed or a rotation is in range or no greater than the one before; a slot is absent with X = Y = 0, or
valid, or as before. -/
inductive RangedWrite : State → State → Prop
  | setDir {d : Direction} (s : State) (hd : d ≠ .neutral) : RangedWrite s (setDir d s)
  | stop (s : State) : RangedWrite s (writeSpeed 0 (setDir .neutral s))
  | turnOff (s : State) : RangedWrite s (turnOff s)
  | setTrkMem (sep : Nat) (s : State) : RangedWrite s (setTrkMem sep s)
  | setMode (m : Mode) (s : State) : RangedWrite s (setMode m s)
  | setFrame {f : Frame} {s : State} (hf : ∀ i : Fin 4, SlotOk (f.get i) ∨ f.get i = s.frame.get i) :
      RangedWrite s (setFrame f s)
  | setHalted (s : State) : RangedWrite s (setHalted s)
  | writeSpeed {q : Nat} {s : State} (hmoving : s.dir ≠ .neutral) (hq : q ≤ max (spdMaxQ s.cfg) s.speedQ.toNat) :
      RangedWrite s (writeSpeed q s)
  | writeRot {q : Nat} {s : State} (hq : q ≤ max (rotMaxQ s.cfg) s.rotQ.toNat) : RangedWrite s (writeRot q s)
  | emitRun (sig : RunSignal) (s : State) : RangedWrite s (emitRun sig s)

/-- Some ranged writes, one after the other. -/
abbrev RangedWrites : State → State → Prop := Relation.ReflTransGen RangedWrite

/-! #### Micro-operations (40_actuator.md) -/

theorem setDirection_ranged (d : Direction) (s : State) : RangedWrites s (setDirection d s) := by
  obtain ⟨-, heq⟩ | ⟨hd, heq⟩ := setDirection_cases d s <;> rw [heq]
  · exact .single (.stop s)
  · exact .single (.setDir s hd)

theorem increaseSpeed_ranged (s : State) : RangedWrites s (increaseSpeed s) := by
  obtain ⟨-, heq⟩ | ⟨hmoving, heq⟩ := increaseSpeed_cases s <;> rw [heq]
  exact .single (.writeSpeed hmoving (le_max_of_le_left (Nat.min_le_right _ _)))

theorem decreaseSpeed_ranged (s : State) : RangedWrites s (decreaseSpeed s) := by
  obtain ⟨-, heq⟩ | ⟨hmoving, heq⟩ := decreaseSpeed_cases s <;> rw [heq]
  exact .single (.writeSpeed hmoving (le_max_of_le_right (Nat.sub_le _ _)))

theorem snapSpeedQ_ranged (q : Int) (s : State) : RangedWrites s (snapSpeedQ q s) := by
  obtain ⟨-, heq⟩ | ⟨hmoving, -, hq, heq⟩ := snapSpeedQ_cases q s <;> rw [heq]
  exact .single (.writeSpeed hmoving (le_max_of_le_left hq))

theorem snapRotateQ_ranged (q : Int) (s : State) : RangedWrites s (snapRotateQ q s) := by
  obtain ⟨-, heq⟩ | ⟨-, hq, heq⟩ := snapRotateQ_cases q s <;> rw [heq]
  exact .single (.writeRot (le_max_of_le_left hq))

theorem rotateRight_ranged (m : Nat) (s : State) : RangedWrites s (rotateRight m s) := by
  obtain ⟨-, heq⟩ | ⟨-, heq⟩ := rotateRight_cases m s <;> rw [heq]
  exact .single (.writeRot (le_max_of_le_right (Nat.sub_le _ _)))

theorem rotateLeft_ranged (m : Nat) (s : State) : RangedWrites s (rotateLeft m s) := by
  obtain ⟨-, heq⟩ | ⟨hq, heq⟩ := rotateLeft_cases m s <;> rw [heq]
  exact .single (.writeRot (le_max_of_le_left hq))

theorem enableMotors_ranged (s : State) : RangedWrites s (enableMotors s) := .single (.emitRun _ s)

theorem disableMotors_ranged (s : State) : RangedWrites s (disableMotors s) := .single (.emitRun _ s)

/-! #### The three controllers (41_tracking.md, 42_manual.md, 43_supervisor.md) -/

theorem driveToward_ranged (d : Direction) (s : State) : RangedWrites s (driveToward d s) := by
  unfold driveToward flipAtZero
  split_ifs
  · exact setDirection_ranged d s
  · exact increaseSpeed_ranged s
  · exact (decreaseSpeed_ranged s).trans (setDirection_ranged d _)
  · exact decreaseSpeed_ranged s

theorem driveStep_ranged (k : Keys) (s : State) : RangedWrites s (driveStep k s) := by
  obtain ⟨-, heq⟩ | ⟨-, -, heq⟩ | ⟨-, -, heq⟩ := driveStep_cases k s <;> rw [heq]
  · exact driveToward_ranged _ s
  · exact driveToward_ranged _ s

theorem steerStep_ranged (k : Keys) (s : State) : RangedWrites s (steerStep k s) := by
  obtain ⟨-, heq⟩ | ⟨-, -, heq⟩ | ⟨-, -, heq⟩ := steerStep_cases k s <;> rw [heq]
  · exact rotateRight_ranged 0 s
  · exact rotateLeft_ranged 0 s

theorem manualCycle_ranged (k : Keys) (s : State) : RangedWrites s (manualCycle k s) := by
  rw [manualCycle, holdGate_eq_emitRun]
  exact ((driveStep_ranged k s).trans (steerStep_ranged k _)).tail (.emitRun _ _)

theorem trackSingle_ranged (a : Slot) (s : State) : RangedWrites s (trackSingle a s) :=
  ((snapRotateQ_ranged _ s).trans (snapSpeedQ_ranged _ _)).tail (.emitRun _ _)

theorem trackPair_ranged (a b : Slot) (s : State) : RangedWrites s (trackPair a b s) :=
  (((snapRotateQ_ranged _ s).trans (snapSpeedQ_ranged _ _)).tail (.setTrkMem _ _)).tail (.emitRun _ _)

theorem trackCycle_ranged (s : State) : RangedWrites s (trackCycle s) := by
  unfold trackCycle
  split
  · exact disableMotors_ranged s
  · exact trackSingle_ranged _ s
  · exact trackPair_ranged _ _ s
  · exact trackPair_ranged _ _ s

theorem dispatchController_ranged (k : Keys) (s : State) : RangedWrites s (dispatchController k s) := by
  unfold dispatchController
  split
  · exact manualCycle_ranged k s
  · exact trackCycle_ranged s

theorem supervisorCycle_ranged (k : Keys) (s : State) : RangedWrites s (supervisorCycle k s) := by
  unfold supervisorCycle
  split
  · exact .tail (.single (.turnOff s)) (.setHalted _)
  · exact .head (.setMode _ s) (dispatchController_ranged k _)

/-! #### The frame commands (41_tracking.md R160, R161) -/

theorem slotOk_absent : SlotOk Slot.absent := fun _ => ⟨rfl, rfl⟩

theorem slotOk_loadedSlot (v : Bool) (x y : BitVec 12) : SlotOk (loadedSlot v x y) := by
  cases v with
  | false => exact slotOk_absent
  | true => intro hv; cases hv

theorem clearFrame_ranged (s : State) : RangedWrites s (setFrame Frame.empty s) :=
  .single (.setFrame fun i => .inl (by rw [frame_get_empty]; exact slotOk_absent))

theorem loadSlot_ranged (slot : Fin 4) (v : Bool) (x y : BitVec 12) (s : State) :
    RangedWrites s (setFrame (s.frame.set slot (loadedSlot v x y)) s) := by
  refine .single (.setFrame fun i => ?_)
  rw [frame_get_set]
  split
  · exact .inl (slotOk_loadedSlot v x y)
  · exact .inr rfl

/-- Every command is a sequence of ranged writes. -/
theorem exec_ranged {i : Instr} {s t : State} (h : exec i s = .next t) : RangedWrites s t := by
  cases i <;> cases h
  case nop => exact .refl
  case setdir d => exact setDirection_ranged d s
  case inc => exact increaseSpeed_ranged s
  case dec => exact decreaseSpeed_ranged s
  case snapspd p => exact snapSpeedQ_ranged _ s
  case rotr m => exact rotateRight_ranged m s
  case rotl m => exact rotateLeft_ranged m s
  case snaprot p => exact snapRotateQ_ranged _ s
  case enable => exact enableMotors_ranged s
  case disable => exact disableMotors_ranged s
  case turnoff => exact .single (.turnOff s)
  case bclr => exact clearFrame_ranged s
  case bslot slot v x y => exact loadSlot_ranged slot v x y s
  case track => exact trackCycle_ranged s
  case manual k => exact manualCycle_ranged k s
  case setmode m => exact .single (.setMode m s)
  case cycle k => exact supervisorCycle_ranged k s

/-! ### Predicates that every step keeps -/

/-- `P` is kept by every ranged write, by the operations of the ports and of the illegal check, and by reset. -/
structure KeptByStep (P : State → Prop) : Prop where
  write : ∀ {s t}, RangedWrite s t → P s → P t
  setInbox : ∀ l s, P s → P (setInbox l s)
  raiseIll : ∀ s, P s → P (raiseIll s)
  pushReadData : ∀ d s, P s → P (pushReadData d s)
  applyReset : ∀ s, P s → P (applyReset s)

namespace KeptByStep

variable {P : State → Prop} (kept : KeptByStep P)
include kept

theorem writes {s t : State} (h : RangedWrites s t) (hs : P s) : P t := by
  induction h with
  | refl => exact hs
  | tail _ hwrite ih => exact kept.write hwrite ih

theorem step {s t : State} (hs : P s) (h : step s = .next t) : P t := by
  rcases step_cases s t h with ⟨-, rfl⟩ | ⟨w, rest, e, -, -, rfl⟩ | ⟨w, rest, i, -, -, -, rfl⟩
    | ⟨w, rest, i, -, -, -, hrun⟩ | ⟨a, rest, -, rfl⟩ | ⟨rest, -, rfl⟩
  · exact hs
  · exact kept.raiseIll _ (kept.setInbox rest s hs)
  · exact kept.setInbox rest s hs
  · exact kept.writes (exec_ranged hrun) (kept.setInbox rest s hs)
  · exact kept.pushReadData _ _ (kept.setInbox rest s hs)
  · exact kept.applyReset _ (kept.setInbox rest s hs)

end KeptByStep

theorem RangedWrite.cfg_eq {s t : State} (h : RangedWrite s t) : t.cfg = s.cfg := by
  cases h <;> rfl

end Sys2Proof.Machine

namespace Sys2Proof.Safety

open Sys2Proof.Machine

/-! ### I1 to I4 (10_state.md R30) -/

/-- A narrowed value is no greater than the value. -/
theorem ofNat_toNat_le (n q : Nat) : (BitVec.ofNat n q).toNat ≤ q :=
  (BitVec.toNat_ofNat q n).trans_le (Nat.mod_le _ _)

theorem speedInRange_of_write {s t : State} (h : RangedWrite s t) (hs : SpeedInRange s) : SpeedInRange t := by
  cases h
  case writeSpeed q hmoving hq => exact (ofNat_toNat_le 20 q).trans (hq.trans (max_le le_rfl hs))
  case stop | turnOff => exact Nat.zero_le _
  all_goals exact hs

theorem rotationInRange_of_write {s t : State} (h : RangedWrite s t) (hs : RotationInRange s) :
    RotationInRange t := by
  cases h
  case writeRot q hq => exact (ofNat_toNat_le 20 q).trans (hq.trans (max_le le_rfl hs))
  all_goals exact hs

theorem neutralIsStopped_of_write {s t : State} (h : RangedWrite s t) (hs : NeutralIsStopped s) :
    NeutralIsStopped t := by
  cases h
  case setDir d hd => exact fun hneutral => absurd hneutral hd
  case writeSpeed q hmoving hq => exact fun hneutral => absurd hneutral hmoving
  case stop | turnOff => exact fun _ => rfl
  all_goals exact hs

/-- The invariants of R30 at legal parameters. -/
abbrev LegalAndInvariant (s : State) : Prop := LegalConfig s ∧ Invariants s

theorem legalAndInvariant_keptByStep : KeptByStep LegalAndInvariant where
  write h := fun ⟨hlegal, hspeed, hrot, hneutral, _⟩ =>
    ⟨by rwa [LegalConfig, h.cfg_eq], speedInRange_of_write h hspeed, rotationInRange_of_write h hrot,
      neutralIsStopped_of_write h hneutral, directionIsLegal _⟩
  setInbox _ _ hs := hs
  raiseIll _ hs := hs
  pushReadData _ _ hs := hs
  applyReset _ := fun ⟨hlegal, _⟩ => ⟨hlegal, invariants_resetWith hlegal.xMax_le⟩

/-! ### The ranges of the output events (40_actuator.md R131) -/

@[simp] theorem eventOk_run (c : Config) (m : Motor) (sig : RunSignal) : EventOk c (.run m sig) = true := rfl

theorem eventOk_spd {c : Config} (hc : c.Legal) (m : Motor) {q : Nat} (hq : q ≤ spdMaxQ c) :
    EventOk c (.spd m (spdByte c q)) = true :=
  decide_eq_true ((spdByte_le_spdFull hc.closestSep_pos hq).trans hc.spdFull_le)

theorem eventOk_servo {c : Config} (hc : c.Legal) {q : Nat} (hq : q ≤ rotMaxQ c) :
    EventOk c (.pwm c.servoCh 0 (servoTick c q)) = true := by
  have htick : servoTick c q ≤ 4095 :=
    (servoTick_le_pwmFull hc.xMax_pos hc.slopeDen_pos hc.duty_le hq).trans hc.pwmFull_le
  simp [EventOk, hc.servoCh_lt, htick]

theorem eventOk_of_mem_pwmZeroes {c : Config} {e : Event} (he : e ∈ pwmZeroes c) : EventOk c e = true := by
  obtain ⟨-, ch, hch, rfl⟩ := mem_pwmZeroes_iff.1 he
  simp [EventOk, hch]

/-- A speed pair in range. -/
theorem eventsInRange_speedPair {c : Config} (hc : c.Legal) {q : Nat} (hq : q ≤ spdMaxQ c) :
    ∀ e ∈ [Event.spd .m1 (spdByte c q), .spd .m2 (spdByte c q)], EventOk c e = true := by
  simp [eventOk_spd hc _ hq]

/-- What a ranged write appends to the stream is in range. -/
theorem events_of_write {s t : State} (h : RangedWrite s t) (hs : LegalAndInvariant s) :
    ∃ es, t.events = s.events ++ es ∧ ∀ e ∈ es, EventOk s.cfg e = true := by
  obtain ⟨hlegal, hspeed, hrot, -, -⟩ := hs
  have hsilent : ∃ es, s.events = s.events ++ es ∧ ∀ e ∈ es, EventOk s.cfg e = true := ⟨[], by simp, by simp⟩
  cases h
  case writeSpeed q hmoving hq =>
    exact ⟨_, by rw [writeSpeed_eq], eventsInRange_speedPair hlegal (hq.trans (max_le le_rfl hspeed))⟩
  case stop => exact ⟨_, by rw [writeSpeed_eq]; rfl, eventsInRange_speedPair hlegal (Nat.zero_le _)⟩
  case turnOff =>
    refine ⟨_, (congrArg State.events (turnOff_eq s)).trans (List.append_assoc _ _ _),
      List.forall_mem_append.2 ⟨?_, fun _ => eventOk_of_mem_pwmZeroes⟩⟩
    simp [eventOk_spd hlegal _ (Nat.zero_le _)]
  case writeRot q hq =>
    exact ⟨_, writeRot_events q s, by simpa using eventOk_servo hlegal (hq.trans (max_le le_rfl hrot))⟩
  case emitRun sig => exact ⟨_, by rw [emitRun_eq], by simp⟩
  all_goals exact hsilent

theorem eventsInRange_keptByStep : KeptByStep fun s => LegalAndInvariant s ∧ EventsInRange s where
  write h := fun ⟨hs, hevents⟩ => by
    obtain ⟨es, ht, hes⟩ := events_of_write h hs
    refine ⟨legalAndInvariant_keptByStep.write h hs, ?_⟩
    rw [EventsInRange, ht, h.cfg_eq]
    exact List.forall_mem_append.2 ⟨hevents, hes⟩
  setInbox _ _ hs := hs
  raiseIll _ hs := hs
  pushReadData _ _ hs := hs
  applyReset s := fun ⟨hs, _⟩ => ⟨legalAndInvariant_keptByStep.applyReset s hs, List.forall_mem_nil _⟩

/-! ### The registers and the drivers agree (20_memory.md R67) -/

/-- The value of a ranged speed write fits SPEED_Q at a legal CLOSEST_SEP. -/
theorem speedQ_toNat_of_le {c : Config} (hc : c.Legal) {q : Nat} {old : BitVec 20}
    (hq : q ≤ max (spdMaxQ c) old.toNat) : (BitVec.ofNat 20 q).toNat = q :=
  (BitVec.toNat_ofNat _ _).trans (Nat.mod_eq_of_lt (hq.trans_lt (max_lt (spdMaxQ_lt hc.closestSep_le) old.isLt)))

/-- The value of a ranged rotation write fits ROT_Q at a legal X_MAX. -/
theorem rotQ_toNat_of_le {c : Config} (hc : c.Legal) {q : Nat} {old : BitVec 20}
    (hq : q ≤ max (rotMaxQ c) old.toNat) : (BitVec.ofNat 20 q).toNat = q :=
  (BitVec.toNat_ofNat _ _).trans (Nat.mod_eq_of_lt (hq.trans_lt (max_lt (rotMaxQ_lt hc.xMax_le) old.isLt)))

theorem motorSpeed_writeSpeed (m : Motor) (q : Nat) (s : State) :
    motorSpeed m (writeSpeed q s) = some (spdByte s.cfg q) := by
  rw [motorSpeed, writeSpeed_eq, lastOf_append]
  cases m <;> simp [latest, speedTo]

theorem channelTick_writeSpeed (ch q : Nat) (s : State) : channelTick ch (writeSpeed q s) = channelTick ch s := by
  rw [channelTick, writeSpeed_eq, lastOf_append_of_none (by simp [tickTo])]
  rfl

theorem motorSpeed_writeRot (m : Motor) (q : Nat) (s : State) : motorSpeed m (writeRot q s) = motorSpeed m s := by
  rw [motorSpeed, writeRot_events, lastOf_append_of_none (by simp [speedTo])]
  rfl

theorem motorSpeed_emitRun (m : Motor) (sig : RunSignal) (s : State) :
    motorSpeed m (emitRun sig s) = motorSpeed m s := by
  rw [motorSpeed, emitRun_eq, lastOf_append_of_none (by simp [speedTo])]
  rfl

theorem channelTick_emitRun (ch : Nat) (sig : RunSignal) (s : State) :
    channelTick ch (emitRun sig s) = channelTick ch s := by
  rw [channelTick, emitRun_eq, lastOf_append_of_none (by simp [tickTo])]
  rfl

theorem speedIsApplied_of_write {s t : State} (h : RangedWrite s t) (hlegal : LegalConfig s)
    (hs : SpeedIsApplied s) : SpeedIsApplied t := by
  intro m
  cases h
  case writeSpeed q hmoving hq =>
    rw [motorSpeed_writeSpeed, writeSpeed_speedQ, speedQ_toNat_of_le hlegal hq]
    exact .inr rfl
  case stop => exact .inr (motorSpeed_writeSpeed m 0 _)
  case turnOff => exact .inr (motorSpeed_turnOff m s)
  case writeRot q hq => rw [motorSpeed_writeRot]; exact hs m
  case emitRun sig => rw [motorSpeed_emitRun]; exact hs m
  all_goals exact hs m

theorem rotationIsApplied_of_write {s t : State} (h : RangedWrite s t) (hlegal : LegalConfig s)
    (hs : RotationIsApplied s) : RotationIsApplied t := by
  unfold RotationIsApplied
  cases h
  case writeRot q hq =>
    rw [writeRot_rotQ, rotQ_toNat_of_le hlegal hq]
    exact .inr (.inl (channelTick_writeRot q s))
  case turnOff =>
    obtain ⟨hkept, -⟩ | hzero := channelTick_turnOff_cases s.cfg.servoCh s
    · rw [turnOff_cfg, hkept]
      exact hs
    · exact .inr (.inr hzero)
  case writeSpeed q hmoving hq => rw [channelTick_writeSpeed]; exact hs
  case stop => rw [channelTick_writeSpeed]; exact hs
  case emitRun sig => rw [channelTick_emitRun]; exact hs
  all_goals exact hs

theorem driversAgree_keptByStep : KeptByStep fun s => LegalConfig s ∧ SpeedIsApplied s ∧ RotationIsApplied s where
  write h := fun ⟨hlegal, hspeed, hrot⟩ =>
    ⟨by rwa [LegalConfig, h.cfg_eq], speedIsApplied_of_write h hlegal hspeed, rotationIsApplied_of_write h hlegal hrot⟩
  setInbox _ _ hs := hs
  raiseIll _ hs := hs
  pushReadData _ _ hs := hs
  applyReset _ := fun ⟨hlegal, _⟩ => ⟨hlegal, fun _ => .inl rfl, .inl rfl⟩

/-! ### Absent slots (10_state.md R26) -/

theorem absentSlotsAreZero_keptByStep : KeptByStep AbsentSlotsAreZero where
  write h hs := by
    cases h
    case setFrame f hf => exact fun i => (hf i).elim id fun hkept => hkept ▸ hs i
    all_goals exact hs
  setInbox _ _ hs := hs
  raiseIll _ hs := hs
  pushReadData _ _ hs := hs
  applyReset _ _ i := by rw [show (applyReset _).frame = Frame.empty from rfl, frame_get_empty]; exact slotOk_absent

/-! ### Reset at the model's parameter values (log 2) -/

theorem standard_legal : Config.standard.Legal := by constructor <;> decide

end Sys2Proof.Safety

namespace Sys2Proof.Proofs

open Sys2Proof.Machine Sys2Proof.Safety

/-- Settles O49: speeds and rotations are written in range, and NEUTRAL together with speed 0. -/
theorem everyStepKeepsTheInvariants : Obligations.EveryStepKeepsTheInvariants := by
  unfold Obligations.EveryStepKeepsTheInvariants
  exact fun s t hlegal hs h => legalAndInvariant_keptByStep.step ⟨hlegal, hs⟩ h

/-- Settles O50: the encoders take values in range to values in range. -/
theorem everyStepKeepsEventsInRange : Obligations.EveryStepKeepsEventsInRange := by
  unfold Obligations.EveryStepKeepsEventsInRange
  exact fun s t hlegal hs hevents h => (eventsInRange_keptByStep.step ⟨⟨hlegal, hs⟩, hevents⟩ h).2

/-- Settles O52: each register write emits the encoding of the value it writes, and the registers hold that value
exactly. -/
theorem everyStepKeepsTheDriversInAgreement : Obligations.EveryStepKeepsTheDriversInAgreement := by
  unfold Obligations.EveryStepKeepsTheDriversInAgreement
  exact fun s t hlegal hspeed hrot h => (driversAgree_keptByStep.step ⟨hlegal, hspeed, hrot⟩ h).2

/-- Settles O53: BCLR and BSLOT write an absent slot with X = Y = 0, and no other command writes a slot. -/
theorem everyStepKeepsAbsentSlotsZero : Obligations.EveryStepKeepsAbsentSlotsZero := by
  unfold Obligations.EveryStepKeepsAbsentSlotsZero
  exact fun s t => absentSlotsAreZero_keptByStep.step

/-- Settles O54: the parameter values are legal, the stream is empty and the frame has no point. -/
theorem resetIsSafe : Obligations.ResetIsSafe := by
  unfold Obligations.ResetIsSafe
  refine ⟨standard_legal, invariants_resetWith standard_legal.xMax_le, ?_, rfl, fun _ => .inl rfl, .inl rfl,
    fun i => ?_⟩
  · exact List.forall_mem_nil _
  · rw [show State.reset.frame = Frame.empty from rfl, frame_get_empty]
    exact slotOk_absent

end Sys2Proof.Proofs
end

section
/-! PROOFS. TRACK by its three states (41_tracking.md R165 to R168), and the manual cycle from NEUTRAL (42_manual.md
R201). -/

namespace Sys2Proof.Machine

open Sys2Proof.Safety

/-! ### The valid points by slot index (41_tracking.md R162) -/

theorem validPoints_eq_map (f : Frame) :
    validPoints f = ((List.finRange 4).filter fun i => (f.get i).v).map f.get := by
  rw [validPoints, show f.slots = (List.finRange 4).map f.get from rfl, List.filter_map]
  rfl

theorem validPoints_eq_nil_iff (f : Frame) : validPoints f = [] ↔ ∀ i : Fin 4, (f.get i).v = false := by
  simp [validPoints_eq_map]

theorem finRange_filter_eq (i : Fin 4) : (List.finRange 4).filter (fun j => decide (j = i)) = [i] := by
  revert i; decide

/-- One valid slot and three absent ones make one valid point. -/
theorem validPoints_of_single {f : Frame} {i : Fin 4} (hi : (f.get i).v = true)
    (hother : ∀ j : Fin 4, j ≠ i → (f.get j).v = false) : validPoints f = [f.get i] := by
  have hvalid : ∀ j : Fin 4, (f.get j).v = decide (j = i) := fun j => by
    by_cases hj : j = i
    · simp [hj, hi]
    · simp [hj, hother j hj]
  rw [validPoints_eq_map, List.filter_congr fun j _ => hvalid j, finRange_filter_eq, List.map_singleton]

theorem exists_single_of_validPoints {f : Frame} {a : Slot} (h : validPoints f = [a]) :
    ∃ i : Fin 4, (f.get i).v = true ∧ ∀ j : Fin 4, j ≠ i → (f.get j).v = false := by
  rw [validPoints_eq_map, List.map_eq_singleton_iff] at h
  obtain ⟨i, hfilter, -⟩ := h
  have hvalid : ∀ j : Fin 4, (f.get j).v = true ↔ j = i := fun j => by
    simpa using congrArg (j ∈ ·) hfilter
  exact ⟨i, (hvalid i).2 rfl, fun j hj => by simpa using mt (hvalid j).1 hj⟩

/-! ### The pair of TRACK is determined (41_tracking.md R164, R165) -/

/-- `a` is the point of `ps` at the smallest index whose `f` is the greatest. -/
def FirstGreatest {β : Type} [LinearOrder β] (f : Slot → β) (ps : List Slot) (a : Slot) : Prop :=
  ∃ k : Nat, ps[k]? = some a ∧ (∀ p ∈ ps, f p ≤ f a) ∧ ∀ j < k, ∀ p, ps[j]? = some p → f p < f a

theorem firstGreatestY_iff (ps : List Slot) (a : Slot) :
    FirstGreatestY ps a ↔ FirstGreatest (fun t => t.y.toNat) ps a := Iff.rfl

/-- The least Y is the greatest in the dual order. -/
theorem firstLeastY_iff (ps : List Slot) (a : Slot) :
    FirstLeastY ps a ↔ FirstGreatest (fun t => OrderDual.toDual t.y.toNat) ps a := Iff.rfl

theorem FirstGreatest.unique {β : Type} [LinearOrder β] {f : Slot → β} {ps : List Slot} {a b : Slot}
    (ha : FirstGreatest f ps a) (hb : FirstGreatest f ps b) : a = b := by
  obtain ⟨k, hk, hgreatest, hfirst⟩ := ha
  obtain ⟨k', hk', hgreatest', hfirst'⟩ := hb
  obtain hlt | rfl | hgt := lt_trichotomy k k'
  · exact absurd (hfirst' k hlt a hk) (hgreatest b (List.mem_of_getElem? hk')).not_gt
  · exact Option.some.inj (hk.symm.trans hk')
  · exact absurd (hfirst k' hgt b hk') (hgreatest' a (List.mem_of_getElem? hk)).not_gt

theorem trackCycle_of_no_point {s : State} (h : validPoints s.frame = []) : trackCycle s = disableMotors s := by
  simp only [trackCycle, h, trackNone]

theorem trackCycle_of_one_point {s : State} {a : Slot} (h : validPoints s.frame = [a]) :
    trackCycle s = trackSingle a s := by
  simp only [trackCycle, h]

theorem trackCycle_of_trackedPair {s : State} {a b : Slot} (h : TrackedPair s.frame a b) :
    trackCycle s = trackPair a b s := by
  obtain htwo | ⟨hmany, hgreatest, hleast⟩ := h
  · simp only [trackCycle, htwo]
  · match hpoints : validPoints s.frame with
    | [] | [_] | [_, _] => simp [hpoints] at hmany
    | p :: q :: r :: more =>
      rw [hpoints] at hgreatest hleast
      have ha := ((firstGreatestY_iff _ _).1 hgreatest).unique (firstGreatestY_firstMaxY p (q :: r :: more))
      have hb := ((firstLeastY_iff _ _).1 hleast).unique (firstLeastY_firstMinY p (q :: r :: more))
      simp only [trackCycle, hpoints, ha, hb]

/-- Two points or more have a tracked pair. -/
theorem exists_trackedPair {f : Frame} (h : 2 ≤ (validPoints f).length) : ∃ a b, TrackedPair f a b := by
  match hpoints : validPoints f with
  | [] | [_] => simp [hpoints] at h
  | [a, b] => exact ⟨a, b, .inl hpoints⟩
  | p :: q :: r :: more =>
    refine ⟨firstMaxY p (q :: r :: more), firstMinY p (q :: r :: more), .inr ?_⟩
    rw [hpoints]
    exact ⟨by simp, firstGreatestY_firstMaxY p _, firstLeastY_firstMinY p _⟩

/-! ### Steer, then drive (41_tracking.md R167) -/

/-- A rotation snap to a natural number: the register and the event of R127, or nothing beyond 100 %. -/
theorem snapRotateQ_effect (q : Nat) {s : State} (hx : s.cfg.xMax ≤ 4095) :
    ∃ r : BitVec 20, r.toNat = (if q ≤ rotMaxQ s.cfg then q else s.rotQ.toNat)
      ∧ snapRotateQ (q : Int) s = { s with
          rotQ := r
          events := s.events ++ if q ≤ rotMaxQ s.cfg then rotationEvents s.cfg r.toNat else [] } := by
  rw [snapRotateQ_natCast]
  by_cases hq : q ≤ rotMaxQ s.cfg
  · have hval := writeRot_rotQ_toNat q s hq hx
    refine ⟨(writeRot q s).rotQ, by rw [if_pos hq, hval], ?_⟩
    rw [if_pos hq, if_pos hq, hval]
    rfl
  · exact ⟨s.rotQ, by rw [if_neg hq], by rw [if_neg hq, if_neg hq, List.append_nil]⟩

/-- A speed snap to a value in range: the register and the events of R123, or nothing while NEUTRAL. -/
theorem snapSpeedQ_effect {v : Nat} {s : State} (hc : s.cfg.closestSep ≤ 4095) (hv : v ≤ spdMaxQ s.cfg) :
    ∃ m : BitVec 20, m.toNat = (if s.dir = .neutral then s.speedQ.toNat else v)
      ∧ snapSpeedQ (v : Int) s = { s with
          speedQ := m
          events := s.events ++ if s.dir = .neutral then [] else speedEvents s.cfg m.toNat } := by
  rw [snapSpeedQ_natCast hv]
  by_cases hdir : s.dir = .neutral
  · exact ⟨s.speedQ, by rw [if_pos hdir], by rw [if_pos hdir, if_pos hdir, List.append_nil]⟩
  · have hval := writeSpeed_speedQ_toNat v s hv hc
    refine ⟨(writeSpeed v s).speedQ, by rw [if_neg hdir, hval], ?_⟩
    rw [if_neg hdir, if_neg hdir, hval, writeSpeed_eq]
    rfl

/-- The steering of a TRACK and then its speed. -/
theorem steer_then_drive_effect (q : Nat) {v : Nat} {s : State} (hc : s.cfg.closestSep ≤ 4095)
    (hx : s.cfg.xMax ≤ 4095) (hv : v ≤ spdMaxQ s.cfg) :
    ∃ r m : BitVec 20, r.toNat = (if q ≤ rotMaxQ s.cfg then q else s.rotQ.toNat)
      ∧ m.toNat = (if s.dir = .neutral then s.speedQ.toNat else v)
      ∧ snapSpeedQ (v : Int) (snapRotateQ (q : Int) s) = { s with
          rotQ := r
          speedQ := m
          events := s.events ++ (if q ≤ rotMaxQ s.cfg then rotationEvents s.cfg r.toNat else [])
            ++ if s.dir = .neutral then [] else speedEvents s.cfg m.toNat } := by
  obtain ⟨r, hr, hsteer⟩ := snapRotateQ_effect q hx
  rw [hsteer]
  obtain ⟨m, hm, hdrive⟩ := snapSpeedQ_effect (s := { s with
    rotQ := r
    events := s.events ++ if q ≤ rotMaxQ s.cfg then rotationEvents s.cfg r.toNat else [] }) hc hv
  exact ⟨r, m, hr, hm, hdrive⟩

/-- A point is within the steering range up to X_MAX. -/
theorem steerOne_le_iff (c : Config) (x : Nat) : 200 * x ≤ rotMaxQ c ↔ x ≤ c.xMax := by
  unfold rotMaxQ rotDen
  omega

/-- A midpoint is within the steering range up to X_MAX. -/
theorem steerPair_le_iff (c : Config) (sum : Nat) : 100 * sum ≤ rotMaxQ c ↔ sum ≤ 2 * c.xMax := by
  unfold rotMaxQ rotDen
  omega

theorem trackSingle_eq (a : Slot) (s : State) :
    trackSingle a s = enableMotors (snapSpeedQ ((speedFromSeparationQ s.cfg s.trkMem.toNat / 2 : Nat) : Int)
      (snapRotateQ ((200 * a.x.toNat : Nat) : Int) s)) := by
  simp [trackSingle, steerOneQ]

theorem trackPair_eq (a b : Slot) (s : State) :
    trackPair a b s = enableMotors (setTrkMem (separation a b)
      (snapSpeedQ (speedFromSeparationQ s.cfg (separation a b) : Int)
        (snapRotateQ ((100 * (a.x.toNat + b.x.toNat) : Nat) : Int) s))) := by
  simp [trackPair, steerPairQ]

end Sys2Proof.Machine

namespace Sys2Proof.Proofs

open Sys2Proof.Machine Sys2Proof.Safety

/-- Settles O36: a frame with no valid slot has no point. -/
theorem trackWithoutTargetOnlyReleases : Obligations.TrackWithoutTargetOnlyReleases := by
  unfold Obligations.TrackWithoutTargetOnlyReleases
  intro s habsent
  rw [exec_track, trackCycle_of_no_point ((validPoints_eq_nil_iff _).2 habsent), disableMotors_eq]
  rfl

/-- Settles O37: half the law is in range and exact, because the law is even. -/
theorem trackSingleTargetUsesTheMemory : Obligations.TrackSingleTargetUsesTheMemory := by
  unfold Obligations.TrackSingleTargetUsesTheMemory
  intro s i hc hx hi hother
  have heven := speedFromSeparationQ_even s.cfg s.trkMem.toNat
  have hhalf : speedFromSeparationQ s.cfg s.trkMem.toNat / 2 ≤ spdMaxQ s.cfg :=
    (Nat.div_le_self _ _).trans (speedFromSeparationQ_le s.cfg _)
  obtain ⟨r, m, hr, hm, heq⟩ := steer_then_drive_effect (200 * (s.frame.get i).x.toNat) hc hx hhalf
  rw [exec_track, trackCycle_of_one_point (validPoints_of_single hi hother), trackSingle_eq, heq, enableMotors_eq]
  simp only [steerOne_le_iff] at hr ⊢
  refine ⟨_, rfl, hr, ?_, rfl⟩
  rw [hm]
  split <;> omega

/-- Settles O38: the pair is determined, the law of its separation is in range, and the separation fits TRK_MEM. -/
theorem trackPairSteersAndRemembers : Obligations.TrackPairSteersAndRemembers := by
  unfold Obligations.TrackPairSteersAndRemembers
  rintro s a b sep hc hx hpair hsep
  obtain rfl : sep = separation a b := hsep
  obtain ⟨r, m, hr, hm, heq⟩ := steer_then_drive_effect (100 * (a.x.toNat + b.x.toNat)) hc hx
    (speedFromSeparationQ_le s.cfg (separation a b))
  have hmem : (BitVec.ofNat 12 (separation a b)).toNat = separation a b :=
    (BitVec.toNat_ofNat _ _).trans (Nat.mod_eq_of_lt (Nat.lt_succ_of_le (separation_le a b)))
  rw [exec_track, trackCycle_of_trackedPair hpair, trackPair_eq, heq, enableMotors_eq]
  simp only [steerPair_le_iff] at hr ⊢
  exact ⟨_, rfl, hr, hm, hmem, rfl⟩

/-- Settles O39, by the number of valid points. -/
theorem everyFrameIsOfOneTrackingState : Obligations.EveryFrameIsOfOneTrackingState := by
  unfold Obligations.EveryFrameIsOfOneTrackingState
  intro f
  match hpoints : validPoints f with
  | [] => exact .inl ((validPoints_eq_nil_iff f).1 hpoints)
  | [a] => exact .inr (.inl (exists_single_of_validPoints hpoints))
  | a :: b :: more =>
    have htwo : 2 ≤ (validPoints f).length := by simp [hpoints]
    exact .inr (.inr ⟨hpoints ▸ htwo, exists_trackedPair htwo⟩)

/-- Settles O41: from NEUTRAL step 1 writes DIR alone, and the later steps send no speed. -/
theorem manualFromNeutralOnlySelectsDirection : Obligations.ManualFromNeutralOnlySelectsDirection := by
  unfold Obligations.ManualFromNeutralOnlySelectsDirection
  intro s t k hneutral hkeys ht
  obtain rfl : manualCycle k s = t := by simpa using ht
  have hdrive : driveStep k s = setDir (if k.up = true then .forward else .backward) s := by
    obtain ⟨hsame, -⟩ | ⟨hup, -, heq⟩ | ⟨hup, -, heq⟩ := driveStep_cases k s
    · exact absurd hsame hkeys
    · rw [heq, driveToward, if_pos hneutral, hup]
      rfl
    · rw [heq, driveToward, if_pos hneutral, hup]
      rfl
  obtain ⟨es, hes, hspd⟩ := manualCycle_events_no_spd k s
  rw [manualCycle_dir, manualCycle_speedQ, hes, hdrive]
  exact ⟨rfl, rfl, es, rfl, hspd⟩

end Sys2Proof.Proofs
end

section
/-! PROOFS. What a command may write (10_state.md section 1, the "written by" column), what it may send (20_memory.md
section 3, 70_reset_and_hazards.md section 3), the stopped state (60_exceptions.md section 3), and that every step
completes (60_exceptions.md section 1). -/

namespace Sys2Proof.Machine

open Sys2Proof.Safety

/-! ### Registers that the controllers leave -/

@[simp] theorem driveStep_trkMem (k : Keys) (s : State) : (driveStep k s).trkMem = s.trkMem := by
  obtain ⟨d, heq⟩ | ⟨d, q, heq⟩ := driveStep_writes k s <;> simp [heq]

@[simp] theorem driveStep_frame (k : Keys) (s : State) : (driveStep k s).frame = s.frame := by
  obtain ⟨d, heq⟩ | ⟨d, q, heq⟩ := driveStep_writes k s <;> simp [heq]

@[simp] theorem steerStep_trkMem (k : Keys) (s : State) : (steerStep k s).trkMem = s.trkMem := by
  obtain heq | ⟨q, heq⟩ := steerStep_writes k s <;> simp [heq]

@[simp] theorem steerStep_frame (k : Keys) (s : State) : (steerStep k s).frame = s.frame := by
  obtain heq | ⟨q, heq⟩ := steerStep_writes k s <;> simp [heq]

@[simp] theorem manualCycle_trkMem (k : Keys) (s : State) : (manualCycle k s).trkMem = s.trkMem := by
  simp [manualCycle, holdGate_eq_emitRun]

@[simp] theorem manualCycle_frame (k : Keys) (s : State) : (manualCycle k s).frame = s.frame := by
  simp [manualCycle, holdGate_eq_emitRun]

@[simp] theorem trackCycle_dir (s : State) : (trackCycle s).dir = s.dir := by
  unfold trackCycle
  split <;> simp [trackNone, trackSingle, trackPair]

@[simp] theorem trackCycle_frame (s : State) : (trackCycle s).frame = s.frame := by
  unfold trackCycle
  split <;> simp [trackNone, trackSingle, trackPair]

/-- TRACK remembers a separation only when there are two points to have one (41_tracking.md R168). -/
theorem two_le_validPoints_of_trackCycle_trkMem {s : State} (hne : (trackCycle s).trkMem ≠ s.trkMem) :
    2 ≤ (validPoints s.frame).length := by
  by_contra hfew
  refine hne ?_
  match hpoints : validPoints s.frame with
  | [] => rw [trackCycle_of_no_point hpoints, disableMotors_trkMem]
  | [a] => rw [trackCycle_of_one_point hpoints]; simp [trackSingle]
  | a :: b :: more => simp [hpoints] at hfew

@[simp] theorem dispatchController_frame (k : Keys) (s : State) : (dispatchController k s).frame = s.frame := by
  unfold dispatchController
  split <;> simp

@[simp] theorem supervisorCycle_frame (k : Keys) (s : State) : (supervisorCycle k s).frame = s.frame := by
  unfold supervisorCycle
  split <;> simp [emergencyStop]

/-! ### The parameters and the ports: written by no command -/

/-- The model's own fields of `s`: the parameters and the two ports. -/
abbrev SameOutside (s t : State) : Prop := t.cfg = s.cfg ∧ t.inbox = s.inbox ∧ t.readData = s.readData

theorem sameOutside_keptByWrites (s : State) : KeptByWrites (SameOutside s) where
  setDir _ _ h := h
  setTrkMem _ _ h := h
  setMode _ _ h := h
  setFrame _ _ h := h
  setHalted _ h := h
  writeSpeed _ _ h := h
  writeRot _ _ h := h
  emitRun _ _ h := h
  emitPwmZeroes _ h := h

theorem exec_sameOutside {i : Instr} {s t : State} (h : exec i s = .next t) : SameOutside s t :=
  (sameOutside_keptByWrites s).exec ⟨rfl, rfl, rfl⟩ h

/-! ### The writers of each register (10_state.md section 1) -/

section
variable {i : Instr} {s t : State} (h : exec i s = .next t)
include h

theorem dir_writers (hne : t.dir ≠ s.dir) :
    (∃ d, i = .setdir d) ∨ i = .turnoff ∨ (∃ k, i = .manual k) ∨ ∃ k, i = .cycle k := by
  cases i <;> cases h
  case setdir d => exact .inl ⟨d, rfl⟩
  case turnoff => exact .inr (.inl rfl)
  case manual k => exact .inr (.inr (.inl ⟨k, rfl⟩))
  case cycle k => exact .inr (.inr (.inr ⟨k, rfl⟩))
  all_goals simp at hne

theorem rotQ_writers (hne : t.rotQ ≠ s.rotQ) :
    (∃ m, i = .rotr m) ∨ (∃ m, i = .rotl m) ∨ (∃ p, i = .snaprot p) ∨ i = .track ∨ (∃ k, i = .manual k)
      ∨ ∃ k, i = .cycle k := by
  cases i <;> cases h
  case rotr m => exact .inl ⟨m, rfl⟩
  case rotl m => exact .inr (.inl ⟨m, rfl⟩)
  case snaprot p => exact .inr (.inr (.inl ⟨p, rfl⟩))
  case track => exact .inr (.inr (.inr (.inl rfl)))
  case manual k => exact .inr (.inr (.inr (.inr (.inl ⟨k, rfl⟩))))
  case cycle k => exact .inr (.inr (.inr (.inr (.inr ⟨k, rfl⟩))))
  all_goals simp at hne

/-- SETDIR writes SPEED_Q only when it selects NEUTRAL. -/
theorem speedQ_writers (hne : t.speedQ ≠ s.speedQ) :
    i = .setdir .neutral ∨ i = .inc ∨ i = .dec ∨ (∃ p, i = .snapspd p) ∨ i = .turnoff ∨ i = .track
      ∨ (∃ k, i = .manual k) ∨ ∃ k, i = .cycle k := by
  cases i <;> cases h
  case setdir d =>
    by_cases hd : d = .neutral
    · exact .inl (by rw [hd])
    · exact absurd (by rw [setDirection_of_ne_neutral hd]) hne
  case inc => exact .inr (.inl rfl)
  case dec => exact .inr (.inr (.inl rfl))
  case snapspd p => exact .inr (.inr (.inr (.inl ⟨p, rfl⟩)))
  case turnoff => exact .inr (.inr (.inr (.inr (.inl rfl))))
  case track => exact .inr (.inr (.inr (.inr (.inr (.inl rfl)))))
  case manual k => exact .inr (.inr (.inr (.inr (.inr (.inr (.inl ⟨k, rfl⟩))))))
  case cycle k => exact .inr (.inr (.inr (.inr (.inr (.inr (.inr ⟨k, rfl⟩))))))
  all_goals simp at hne

/-- The memory is written by a TRACK, by command or by dispatch, on two points or more. -/
theorem trkMem_writers (hne : t.trkMem ≠ s.trkMem) :
    2 ≤ (validPoints s.frame).length ∧ (i = .track ∨ ∃ k, i = .cycle k ∧ k.exit = false ∧ t.mode = .track) := by
  cases i <;> cases h
  case track => exact ⟨two_le_validPoints_of_trackCycle_trkMem hne, .inl rfl⟩
  case cycle k =>
    cases hexit : k.exit with
    | true => simp [supervisorCycle_of_exit hexit] at hne
    | false =>
      rw [supervisorCycle_of_no_exit hexit] at hne ⊢
      cases hmode : modeAfterKeys k s.mode with
      | manual =>
        rw [hmode, dispatchController_of_manual (setMode_mode _ s)] at hne
        simp at hne
      | track =>
        rw [hmode, dispatchController_of_track (setMode_mode _ s)] at hne
        exact ⟨two_le_validPoints_of_trackCycle_trkMem (s := setMode .track s) hne, .inr ⟨k, rfl, hexit, by simp⟩⟩
  all_goals simp at hne

theorem mode_writers (hne : t.mode ≠ s.mode) : (∃ m, i = .setmode m) ∨ ∃ k, i = .cycle k ∧ k.exit = false := by
  cases i <;> cases h
  case setmode m => exact .inl ⟨m, rfl⟩
  case cycle k =>
    cases hexit : k.exit with
    | true => simp [supervisorCycle_of_exit hexit] at hne
    | false => exact .inr ⟨k, rfl, hexit⟩
  all_goals simp at hne

theorem frame_writers (hne : t.frame ≠ s.frame) : i = .bclr ∨ ∃ slot v x y, i = .bslot slot v x y := by
  cases i <;> cases h
  case bclr => exact .inl rfl
  case bslot slot v x y => exact .inr ⟨slot, v, x, y, rfl⟩
  all_goals simp at hne

theorem halted_writers (hne : t.halted ≠ s.halted) : ∃ k, i = .cycle k ∧ k.exit = true := by
  cases i <;> cases h
  case cycle k =>
    cases hexit : k.exit with
    | true => exact ⟨k, rfl, hexit⟩
    | false => simp [supervisorCycle_of_no_exit hexit] at hne
  all_goals simp at hne

end

/-! ### The stream of a command (20_memory.md section 3) -/

/-- The stream of `t` is that of `s` with more behind it. -/
abbrev Appends (s t : State) : Prop := ∃ es, t.events = s.events ++ es

theorem Appends.append {s t u : State} {more : List Event} (h : Appends s t) (hu : u.events = t.events ++ more) :
    Appends s u := by
  obtain ⟨es, ht⟩ := h
  exact ⟨es ++ more, by rw [hu, ht, List.append_assoc]⟩

theorem appends_keptByWrites (s : State) : KeptByWrites (Appends s) where
  setDir _ _ h := h
  setTrkMem _ _ h := h
  setMode _ _ h := h
  setFrame _ _ h := h
  setHalted _ h := h
  writeSpeed q u h := h.append (congrArg State.events (writeSpeed_eq q u))
  writeRot q u h := h.append (writeRot_events q u)
  emitRun sig u h := h.append (congrArg State.events (emitRun_eq sig u))
  emitPwmZeroes u h := h.append (emitAll_events _ u)

theorem exec_appends {i : Instr} {s t : State} (h : exec i s = .next t) : Appends s t :=
  (appends_keptByWrites s).exec ⟨[], (List.append_nil _).symm⟩ h

/-! ### Commands that send no run signal (70_reset_and_hazards.md section 3) -/

/-- What `t` has sent beyond `s` holds no RUN. -/
abbrev SendsNoRun (s t : State) : Prop := ∃ es, t.events = s.events ++ es ∧ ∀ e ∈ es, isRunEvent e = false

theorem sendsNoRun_of_events_eq {s t : State} (h : t.events = s.events) : SendsNoRun s t :=
  ⟨[], by rw [h, List.append_nil], by simp⟩

theorem sendsNoRun_writeSpeed {s u : State} (h : u.events = s.events) (q : Nat) : SendsNoRun s (writeSpeed q u) :=
  ⟨_, by rw [writeSpeed_eq, h], by simp [isRunEvent]⟩

/-- A command that is ignored or ends in one speed write. -/
theorem sendsNoRun_of_speed {s t : State} (h : t = s ∨ ∃ q, t = writeSpeed q s) : SendsNoRun s t := by
  obtain rfl | ⟨q, rfl⟩ := h
  · exact sendsNoRun_of_events_eq rfl
  · exact sendsNoRun_writeSpeed rfl q

/-- A command that is ignored or ends in one rotation write. -/
theorem sendsNoRun_of_rotation {s t : State} (h : t = s ∨ ∃ q, t = writeRot q s) : SendsNoRun s t := by
  obtain rfl | ⟨q, rfl⟩ := h
  · exact sendsNoRun_of_events_eq rfl
  · exact ⟨_, writeRot_events q s, by simp [isRunEvent]⟩

theorem runTo_eq_none_of_not_run {e : Event} (he : isRunEvent e = false) (m : Motor) : runTo m e = none :=
  runTo_eq_none fun sig heq => by simp [heq, isRunEvent] at he

theorem motorRun_of_sendsNoRun {s t : State} (h : SendsNoRun s t) (m : Motor) : motorRun m t = motorRun m s := by
  obtain ⟨es, ht, hes⟩ := h
  rw [motorRun, ht]
  exact lastOf_append_of_none fun e he => runTo_eq_none_of_not_run (hes e he) m

theorem motorRun_enableMotors (m : Motor) (s : State) : motorRun m (enableMotors s) = some (runSignal s.dir) :=
  motorRun_of_events_runEvents (by rw [enableMotors_eq]; rfl) m

/-- Only ENABLE, DISABLE, TURNOFF and the controllers send a run signal. -/
theorem exec_sendsNoRun {i : Instr} {s t : State} (henable : i ≠ .enable) (hdisable : i ≠ .disable)
    (hoff : i ≠ .turnoff) (htrack : i ≠ .track) (hmanual : ∀ k, i ≠ .manual k) (hcycle : ∀ k, i ≠ .cycle k)
    (h : exec i s = .next t) : SendsNoRun s t := by
  cases i <;> cases h
  case enable => exact absurd rfl henable
  case disable => exact absurd rfl hdisable
  case turnoff => exact absurd rfl hoff
  case track => exact absurd rfl htrack
  case manual k => exact absurd rfl (hmanual k)
  case cycle k => exact absurd rfl (hcycle k)
  case setdir d =>
    obtain ⟨-, heq⟩ | ⟨-, heq⟩ := setDirection_cases d s <;> rw [heq]
    · exact sendsNoRun_writeSpeed rfl 0
    · exact sendsNoRun_of_events_eq rfl
  case inc => exact sendsNoRun_of_speed ((increaseSpeed_cases s).imp And.right fun ⟨_, heq⟩ => ⟨_, heq⟩)
  case dec => exact sendsNoRun_of_speed ((decreaseSpeed_cases s).imp And.right fun ⟨_, heq⟩ => ⟨_, heq⟩)
  case snapspd p => exact sendsNoRun_of_speed ((snapSpeedQ_cases _ s).imp And.right fun ⟨_, _, _, heq⟩ => ⟨_, heq⟩)
  case rotr m => exact sendsNoRun_of_rotation ((rotateRight_cases m s).imp And.right fun ⟨_, heq⟩ => ⟨_, heq⟩)
  case rotl m => exact sendsNoRun_of_rotation ((rotateLeft_cases m s).imp And.right fun ⟨_, heq⟩ => ⟨_, heq⟩)
  case snaprot p => exact sendsNoRun_of_rotation ((snapRotateQ_cases _ s).imp And.right fun ⟨_, _, heq⟩ => ⟨_, heq⟩)
  case nop | bclr | bslot | setmode => exact sendsNoRun_of_events_eq rfl

/-! ### Steps -/

theorem step_of_reset {s : State} {rest : List HostInput} (hin : s.inbox = .reset :: rest) :
    step s = .next (applyReset (setInbox rest s)) := by
  simp only [step, takeInput, hin]

theorem step_of_idle {s : State} (hin : s.inbox = []) : step s = .next s := by
  simp only [step, takeInput, hin]

/-- A step leaves every register but ILL, or runs a command, or is a reset. -/
theorem step_leaves_or_runs {s t : State} (h : step s = .next t) :
    t = { s with ill := t.ill, inbox := t.inbox, readData := t.readData }
      ∨ (∃ w rest i, s.inbox = .command w :: rest ∧ decode w = .ok i ∧ discarded i s = false
          ∧ exec i (setInbox rest s) = .next t)
      ∨ ∃ rest, s.inbox = .reset :: rest ∧ t = applyReset (setInbox rest s) := by
  rcases step_cases s t h with ⟨-, rfl⟩ | ⟨w, rest, e, -, -, rfl⟩ | ⟨w, rest, i, -, -, -, rfl⟩ | hrun
    | ⟨a, rest, -, rfl⟩ | hreset
  · exact .inl rfl
  · exact .inl rfl
  · exact .inl rfl
  · exact .inr (.inl hrun)
  · exact .inl rfl
  · exact .inr (.inr hreset)

/-- What passes the HALTED gate of a halted block (43_supervisor.md R235). -/
theorem acts_of_not_discarded {i : Instr} {s : State} (hhalted : s.halted = true) (h : discarded i s = false) :
    i = .nop ∨ i = .turnoff := by
  rw [← actsWhileHalted_iff]
  simpa [discarded, hhalted] using h

theorem exec_completes (i : Instr) (s : State) : ∃ t, exec i s = .next t := by
  cases i <;> exact ⟨_, rfl⟩

/-- Whatever stands first on the ports, the step answers a next state. -/
theorem step_completes (s : State) : ∃ t, step s = .next t := by
  match hin : s.inbox with
  | [] => exact ⟨_, step_of_idle hin⟩
  | .read a :: rest => exact ⟨_, step_of_read hin⟩
  | .reset :: rest => exact ⟨_, step_of_reset hin⟩
  | .command w :: rest =>
    cases hdec : decode w with
    | error e => exact ⟨_, step_of_illegalWord hin ((decode_error_iff_illegalWord w).1 ⟨e, hdec⟩)⟩
    | ok i =>
      rw [step_of_legalWord hin hdec]
      split
      · exact ⟨_, rfl⟩
      · exact exec_completes i _

end Sys2Proof.Machine

namespace Sys2Proof.Proofs

open Sys2Proof.Machine Sys2Proof.Safety

/-- Settles O58, register by register. -/
theorem registersChangeOnlyByTheirWriters : Obligations.RegistersChangeOnlyByTheirWriters := by
  unfold Obligations.RegistersChangeOnlyByTheirWriters
  exact fun i s t h => ⟨dir_writers h, rotQ_writers h, speedQ_writers h, trkMem_writers h, mode_writers h,
    frame_writers h, halted_writers h, exec_ill h, exec_sameOutside h⟩

/-- Settles O56: of the commands only CYCLE with EXIT writes HALTED, and it sets it. -/
theorem haltedIsSetByExitAndClearedByReset : Obligations.HaltedIsSetByExitAndClearedByReset := by
  unfold Obligations.HaltedIsSetByExitAndClearedByReset
  intro s t h
  obtain hleft | ⟨w, rest, i, hin, hdec, -, hrun⟩ | ⟨rest, hin, rfl⟩ := step_leaves_or_runs h
  · have hsame : t.halted = s.halted := by rw [hleft]
    exact ⟨fun hoff hon => by simp [hsame, hoff] at hon, fun hon hoff => by simp [hsame, hon] at hoff⟩
  · refine ⟨fun hoff hon => ?set, fun hon hoff => ?cleared⟩
    case set =>
      obtain ⟨k, rfl, hexit⟩ := halted_writers hrun (by simp [hoff, hon])
      exact ⟨w, rest, k, hin, hdec, hexit⟩
    case cleared =>
      obtain ⟨k, rfl, hexit⟩ := halted_writers hrun (by simp [hoff, hon])
      obtain rfl : supervisorCycle k (setInbox rest s) = t := by simpa using hrun
      simp [supervisorCycle_of_exit hexit] at hoff
  · exact ⟨fun _ hon => absurd hon (by simp [applyReset, State.resetWith]), fun _ _ => ⟨rest, hin⟩⟩

/-- Settles O57: the HALTED gate lets only NOP and TURNOFF through. -/
theorem haltedBlockKeepsItsRegisters : Obligations.HaltedBlockKeepsItsRegisters := by
  unfold Obligations.HaltedBlockKeepsItsRegisters
  intro s t hhalted hreset h
  obtain hleft | ⟨w, rest, i, hin, hdec, hpass, hrun⟩ | ⟨rest, hin, -⟩ := step_leaves_or_runs h
  · rw [hleft]
    exact ⟨hhalted, rfl, rfl, rfl, rfl, .inl ⟨rfl, rfl, rfl⟩⟩
  · obtain rfl | rfl : i = .nop ∨ i = .turnoff := acts_of_not_discarded hhalted hpass
    · cases hrun
      exact ⟨hhalted, rfl, rfl, rfl, rfl, .inl ⟨rfl, rfl, rfl⟩⟩
    · cases hrun
      exact ⟨hhalted, rfl, rfl, rfl, rfl, .inr ⟨w, rest, hin, hdec, rfl, rfl⟩⟩
  · exact absurd hin (hreset rest)

/-- Settles O59: a command appends to the stream, and every other step but reset leaves it. -/
theorem eventsAreOnlyAppended : Obligations.EventsAreOnlyAppended := by
  unfold Obligations.EventsAreOnlyAppended
  intro s t h hreset
  obtain hleft | ⟨w, rest, i, hin, -, -, hrun⟩ | ⟨rest, hin, -⟩ := step_leaves_or_runs h
  · exact ⟨[], by rw [hleft, List.append_nil], fun _ => rfl⟩
  · obtain ⟨es, hes⟩ := exec_appends hrun
    exact ⟨es, hes, fun hnone => absurd hin (hnone w rest)⟩
  · exact absurd hin (hreset rest)

/-- Settles O60: those commands write registers, whose events are SPD and PWM; the next ENABLE reads DIR. -/
theorem directionAndSpeedChangesRunNoMotor : Obligations.DirectionAndSpeedChangesRunNoMotor := by
  unfold Obligations.DirectionAndSpeedChangesRunNoMotor
  intro i s t henable hdisable hoff htrack hmanual hcycle h
  have hsilent : SendsNoRun s t := exec_sendsNoRun henable hdisable hoff htrack hmanual hcycle h
  exact ⟨hsilent, motorRun_of_sendsNoRun hsilent, enableMotors t, exec_enable t, fun m => motorRun_enableMotors m t⟩

/-- Settles O14: reset keeps the host's side of the ports and empties the stream. -/
theorem resetActsBetweenCommands : Obligations.ResetActsBetweenCommands := by
  unfold Obligations.ResetActsBetweenCommands
  exact ⟨fun s rest hin => ⟨_, step_of_reset hin, rfl, rfl⟩, fun s => step_of_idle⟩

/-- Settles O15, by what stands first on the ports. -/
theorem everyCommandAndStepCompletes : Obligations.EveryCommandAndStepCompletes := by
  unfold Obligations.EveryCommandAndStepCompletes
  exact ⟨exec_completes, step_completes⟩

end Sys2Proof.Proofs
end

section
/-! PROOFS. The assembler reads the canonical spelling of a command (30_encoding.md R92): its operands one kind at a
time, then its mnemonic. -/

namespace Sys2Proof.Machine

/-! ### The keys operand (30_encoding.md R86, R92) -/

/-- The keys after pressing the named ones in turn, if every name is a key's. -/
def pressAll (k : Keys) (names : List (List Char)) : Option Keys := names.foldlM (fun k n => pressKey n k) k

@[simp] theorem pressAll_nil (k : Keys) : pressAll k [] = some k := rfl

theorem pressAll_cons (k : Keys) (n : List Char) (names : List (List Char)) :
    pressAll k (n :: names) = (pressKey n k).bind (pressAll · names) := List.foldlM_cons

theorem pressAll_append (k : Keys) (names more : List (List Char)) :
    pressAll k (names ++ more) = (pressAll k names).bind (pressAll · more) := List.foldlM_append

/-- The names after the first stand each behind a comma. -/
theorem commaNames_cons (n : List Char) (names : List (List Char)) :
    commaNames (n :: names) = .ident n :: names.flatMap fun m => [.comma, .ident m] := by
  induction names generalizing n with
  | nil => rfl
  | cons m names ih =>
    show Token.ident n :: .comma :: commaNames (m :: names) = _
    rw [ih]
    rfl

/-- The reader of a key list presses the names in turn. -/
theorem keyListRest_eq_pressAll (k : Keys) (names : List (List Char)) :
    keyListRest k ((names.flatMap fun m => [.comma, .ident m]) ++ [.closeBrace]) = pressAll k names := by
  induction names generalizing k with
  | nil => rfl
  | cons n names ih =>
    simp only [List.flatMap_cons, List.cons_append, List.nil_append, keyListRest, pressAll_cons]
    cases pressKey n k with
    | none => rfl
    | some k' => exact ih k'

theorem keysOperand_keyTokens (k : Keys) : keysOperand (keyTokens k) = pressAll noKeys (pressedNames k) := by
  unfold keyTokens
  cases pressedNames k with
  | nil => rfl
  | cons n names =>
    simp only [commaNames_cons, List.cons_append, List.nil_append, keysOperand, pressAll_cons]
    cases pressKey n noKeys with
    | none => rfl
    | some k' => exact keyListRest_eq_pressAll k' names

/-- Pressing the named keys of a set, in bit order, gives that set: each name sets its own key and no other. -/
theorem pressAll_pressedNames (k : Keys) : pressAll noKeys (pressedNames k) = some k := by
  obtain ⟨up, down, left, right, hold, exit, mm, mt⟩ := k
  have hup : pressAll noKeys (if up then ["UP".toList] else []) = some { noKeys with up } := by
    cases up <;> rfl
  have hdown : pressAll { noKeys with up } (if down then ["DOWN".toList] else [])
      = some { noKeys with up, down } := by
    cases down <;> rfl
  have hleft : pressAll { noKeys with up, down } (if left then ["LEFT".toList] else [])
      = some { noKeys with up, down, left } := by
    cases left <;> rfl
  have hright : pressAll { noKeys with up, down, left } (if right then ["RIGHT".toList] else [])
      = some { noKeys with up, down, left, right } := by
    cases right <;> rfl
  have hhold : pressAll { noKeys with up, down, left, right } (if hold then ["HOLD".toList] else [])
      = some { noKeys with up, down, left, right, hold } := by
    cases hold <;> rfl
  have hexit : pressAll { noKeys with up, down, left, right, hold } (if exit then ["EXIT".toList] else [])
      = some { noKeys with up, down, left, right, hold, exit } := by
    cases exit <;> rfl
  have hmanual : pressAll { noKeys with up, down, left, right, hold, exit }
      (if mm then ["MODE_MANUAL".toList] else [])
      = some { noKeys with up, down, left, right, hold, exit, modeManual := mm } := by
    cases mm <;> rfl
  have htrack : pressAll { noKeys with up, down, left, right, hold, exit, modeManual := mm }
      (if mt then ["MODE_TRACK".toList] else []) = some ⟨up, down, left, right, hold, exit, mm, mt⟩ := by
    cases mt <;> rfl
  simp only [pressedNames, pressAll_append, hup, hdown, hleft, hright, hhold, hexit, hmanual, htrack,
    Option.bind_some]

theorem keysOperand_spelling (k : Keys) : keysOperand (keyTokens k) = some k := by
  rw [keysOperand_keyTokens, pressAll_pressedNames]

/-! ### Number and name operands (30_encoding.md R92) -/

theorem signedOperand_spelling {p : Int} (hp : SignedPercent p) : signedOperand [.number p] = some p := if_pos hp

theorem magnitudeOperand_spelling {m : Nat} (hm : Magnitude m) : magnitudeOperand [.number m] = some m :=
  if_pos ⟨Int.natCast_nonneg m, Int.ofNat_le.2 hm⟩

theorem slotNumber_val (slot : Fin 4) : slotNumber slot.val = some slot := by revert slot; decide

theorem coordinate_toNat (x : BitVec 12) : coordinate x.toNat = some x := by
  have hx : 0 ≤ (x.toNat : Int) ∧ (x.toNat : Int) ≤ 4095 := by
    have := x.isLt
    omega
  rw [coordinate, if_pos hx, BitVec.ofInt_natCast, BitVec.ofNat_toNat, BitVec.setWidth_eq]

theorem bslotOperands_point (slot : Fin 4) (x y : BitVec 12) :
    bslotOperands [.number slot.val, .comma, .number x.toNat, .comma, .number y.toNat]
      = some (.bslot slot true x y) := by
  simp only [bslotOperands, slotNumber_val, coordinate_toNat]

/-- NONE spells the absent slot, whose X and Y are 0. -/
theorem bslotOperands_none (slot : Fin 4) :
    bslotOperands [.number slot.val, .comma, .ident "NONE".toList] = some (.bslot slot false 0 0) := by
  simp only [bslotOperands, slotNumber_val, if_true, Option.map_some]

theorem bslotOperands_spelling {slot : Fin 4} {v : Bool} {x y : BitVec 12}
    (h : Spellable (.bslot slot v x y) = true) :
    bslotOperands (operandTokens (.bslot slot v x y)) = some (.bslot slot v x y) := by
  cases v with
  | true => exact bslotOperands_point slot x y
  | false =>
    obtain ⟨rfl, rfl⟩ : x = 0 ∧ y = 0 := by simpa [Spellable] using h
    exact bslotOperands_none slot

/-! ### Whole commands -/

section
variable (operands : List Token)

theorem commandOf_snapspd : commandOf "SNAPSPD".toList operands = (signedOperand operands).map .snapspd := rfl
theorem commandOf_snaprot : commandOf "SNAPROT".toList operands = (signedOperand operands).map .snaprot := rfl
theorem commandOf_rotr : commandOf "ROTR".toList operands = (magnitudeOperand operands).map .rotr := rfl
theorem commandOf_rotl : commandOf "ROTL".toList operands = (magnitudeOperand operands).map .rotl := rfl
theorem commandOf_bslot : commandOf "BSLOT".toList operands = bslotOperands operands := rfl
theorem commandOf_manual : commandOf "MANUAL".toList operands = (keysOperand operands).map .manual := rfl
theorem commandOf_cycle : commandOf "CYCLE".toList operands = (keysOperand operands).map .cycle := rfl

end

/-- The mnemonic selects the reader of its operands, which reads them back. -/
theorem commandOf_spelling {i : Instr} (hi : i.WellFormed) (hspell : Spellable i = true) :
    commandOf i.row.mnemonic.toList (operandTokens i) = some i := by
  cases i
  case nop | inc | dec | enable | disable | turnoff | bclr | track => rfl
  case setdir d => cases d <;> rfl
  case setmode m => cases m <;> rfl
  case snapspd p =>
    exact (commandOf_snapspd _).trans
      (congrArg (Option.map Instr.snapspd) (signedOperand_spelling (of_decide_eq_true hi)))
  case snaprot p =>
    exact (commandOf_snaprot _).trans
      (congrArg (Option.map Instr.snaprot) (signedOperand_spelling (of_decide_eq_true hi)))
  case rotr m =>
    exact (commandOf_rotr _).trans
      (congrArg (Option.map Instr.rotr) (magnitudeOperand_spelling (of_decide_eq_true hi)))
  case rotl m =>
    exact (commandOf_rotl _).trans
      (congrArg (Option.map Instr.rotl) (magnitudeOperand_spelling (of_decide_eq_true hi)))
  case bslot slot v x y => exact (commandOf_bslot _).trans (bslotOperands_spelling hspell)
  case manual k =>
    exact (commandOf_manual _).trans
      (congrArg (Option.map Instr.manual) (keysOperand_spelling k))
  case cycle k =>
    exact (commandOf_cycle _).trans
      (congrArg (Option.map Instr.cycle) (keysOperand_spelling k))

theorem commandsOfTokens_of_commandOf {name : List Char} {operands : List Token} {i : Instr}
    (h : commandOf name operands = some i) : commandsOfTokens (.ident name :: operands) = some [i] := by
  simp only [commandsOfTokens, h]

end Sys2Proof.Machine

namespace Sys2Proof.Proofs

open Sys2Proof.Machine

/-- Settles O7: each kind of operand is read back from its tokens, and no command's line is read as a
pseudo-instruction. -/
theorem assemblerReadsEverySpelling : Obligations.AssemblerReadsEverySpelling := by
  unfold Obligations.AssemblerReadsEverySpelling
  exact fun i hi hspell => commandsOfTokens_of_commandOf (commandOf_spelling hi hspell)

end Sys2Proof.Proofs
end
